-- ==== Sys2Proof/Word.lean ====
section
/-!
DEFINITION. The plain data the block works on: bytes, one-bit values, register words (00_scope.md R8).
-/
namespace Sys2Proof

/-- One byte of a message (10_state.md R22). -/
abbrev Byte := BitVec 8

/-- A 1-bit value: `true` is 1, `false` is 0. On the line 1 is high (released) and 0 is low (00_scope.md R8). -/
abbrev Bit := Bool

/-- A 32-bit operand: the basis of INIT, the count of TMR.ARM (30_encoding.md R104; log 2). -/
abbrev Word := BitVec 32

/-- A timing-table entry, a count of microseconds (10_state.md R35). -/
abbrev Micros := BitVec 16

end Sys2Proof
end

