-- ==== Sys2Proof/Config.lean ====
section
/-!
DEFINITION. What the spec fixes for every chip, the parameters it leaves open with their defaults, and the free values:
constants with no body, of which nothing can be proved but their type.
-/
namespace Sys2Proof

/-! ## Parameters (00_scope.md R7) -/

/-- The open parameters of a block, but for `B`, the operand of INIT, and `ROM_US`, the field `rom` of State. A state
holds them, so a statement over all states holds for every value of them (log 8). -/
structure Params where
  /-- `BASIS_W`: the width of the clock-basis register -/
  basisW : Nat
  /-- `TIMER_W`: the width of the timer's count register -/
  timerW : Nat
  /-- `PENDING_W`: the width of the pending-result register -/
  pendingW : Nat
  /-- `OK_BIT`: the position of send-ok in the flag word -/
  okBit : Nat
  /-- `FAILED_BIT`: the position of send-failed in the flag word -/
  failedBit : Nat
  deriving DecidableEq, Repr

/-- The defaults of R7. -/
def Params.defaults : Params where
  basisW := 32
  timerW := 32
  pendingW := 32
  okBit := 0
  failedBit := 1

/-- The constraint on them: the two flags are distinct and lie in the register (92_eei_decisions.md, the table of open
parameters). -/
def Params.admissible (p : Params) : Bool :=
  decide (p.okBit ≠ p.failedBit) && decide (p.okBit < p.pendingW) && decide (p.failedBit < p.pendingW)

namespace Config

/-! ## Fixed by the spec (00_scope.md R6) -/

/-- `MAX_MSG_LEN`: the longest message in bytes. -/
def maxMsgLen : Nat := 16

/-- `MAX_RESENDS`: the most resends of one transfer. -/
def maxResends : Nat := 5

/-- `BROADCAST`: the destination nibble of a broadcast. -/
def broadcast : BitVec 4 := 15

/-- `BASIS_US`: the microseconds in which the clock basis counts ticks. -/
def basisMicros : Nat := 10000

/-- `ROM_US[0..9]` at its default, in the order of 30_encoding.md R92. PRESUMED: the spec marks the figures as
general knowledge (93_implementation_defined.md G1). The ROM is a field of State, so a statement over all states
holds for every contents of it (log 7). -/
def romDefault : Vector Micros 10 :=
  #v[3700, 800, 1500, 900, 600, 1800, 12000, 7200, 2400, 1050]

/-! ## Free values (93_implementation_defined.md) -/

/-- The level the followers put on the line at the n-th draw (44_timer_adapter.md R261, U13; log 4). -/
opaque followerLevel : Nat → Bit

/-- Whether an enabled START runs now, at the n-th draw, or the clock ticks first (44_timer_adapter.md R255, U14;
log 3). -/
opaque startTaken : Nat → Bool

/-- What `CLKBASIS`, of the given width, holds after the operation RESET, at the n-th draw (70_reset_and_hazards.md R350,
U9; log 6). -/
opaque resetBasis : (w : Nat) → Nat → BitVec w

/-- The result of a subtraction of tick counts that would be negative, which no rule states (40_timing_table.md
R145, R146; log 13). -/
opaque underflowTicks : Nat → Nat → Nat

/-- What `TMR_CNT`, of the given width, holds after it is armed with a count the width cannot hold, which no rule states
(44_timer_adapter.md R251; log 12). -/
opaque oversizeCount : (w : Nat) → Nat → BitVec w

end Config

end Sys2Proof
end

