-- ==== Sys2Proof/Syntax.lean ====
section
/-!
DEFINITION. The operations of the block, one constructor for each row of spec/opcode_table.json (30_encoding.md
R104), and the fifteen states of the FSM.
-/
namespace Sys2Proof

/-- The fifteen states of the transmit FSM, in the order of the spec's list (10_state.md R21, 43_fsm_transition.md
R210). -/
inductive Fsm where
  | idle
  | freeTime
  | startLow
  | startHigh
  | headerInitLow
  | headerInitHigh
  | headerDestLow
  | headerDestHigh
  | eomLow
  | eomHigh
  | ackLow
  | ackHigh
  | ackVerify
  | dataLow
  | dataHigh
  deriving DecidableEq, Repr

/-- The two result flags `EVT.POST` may post (45_result_notifier.md R281). -/
inductive Flag where
  | sendOk
  | sendFailed
  deriving DecidableEq, Repr

/-- The operations of the block (30_encoding.md R104). -/
inductive Instr where
  /-- RESET: host operation (70_reset_and_hazards.md R350). -/
  | reset
  /-- INIT B: host operation (44_timer_adapter.md R257). -/
  | init (basis : Nat)
  /-- SEND len, b[0..len-1]: host operation; `len` is the number of bytes given (44_timer_adapter.md R256). -/
  | send (bytes : List Byte)
  /-- POLL: host operation (45_result_notifier.md R282). -/
  | poll
  /-- START: the start trigger's handler (44_timer_adapter.md R255). -/
  | start
  /-- TICK: one period of the counting clock (44_timer_adapter.md R253). -/
  | tick
  /-- TIMEOUT.Idle: the transition taken when the timer expires in Idle (43_fsm_transition.md R212). -/
  | timeoutIdle
  /-- TIMEOUT.FreeTime: the transition taken when the timer expires in FreeTime (43_fsm_transition.md R213). -/
  | timeoutFreeTime
  /-- TIMEOUT.StartLow: the transition taken when the timer expires in StartLow (43_fsm_transition.md R214). -/
  | timeoutStartLow
  /-- TIMEOUT.StartHigh: the transition taken when the timer expires in StartHigh (43_fsm_transition.md R215). -/
  | timeoutStartHigh
  /-- TIMEOUT.HeaderInitLow: the transition taken when the timer expires in HeaderInitLow (43_fsm_transition.md R216). -/
  | timeoutHeaderInitLow
  /-- TIMEOUT.HeaderInitHigh: the transition taken when the timer expires in HeaderInitHigh (43_fsm_transition.md R217). -/
  | timeoutHeaderInitHigh
  /-- TIMEOUT.HeaderDestLow: the transition taken when the timer expires in HeaderDestLow (43_fsm_transition.md R218). -/
  | timeoutHeaderDestLow
  /-- TIMEOUT.HeaderDestHigh: the transition taken when the timer expires in HeaderDestHigh (43_fsm_transition.md R219). -/
  | timeoutHeaderDestHigh
  /-- TIMEOUT.EomLow: the transition taken when the timer expires in EomLow (43_fsm_transition.md R220). -/
  | timeoutEomLow
  /-- TIMEOUT.EomHigh: the transition taken when the timer expires in EomHigh (43_fsm_transition.md R221). -/
  | timeoutEomHigh
  /-- TIMEOUT.AckLow: the transition taken when the timer expires in AckLow (43_fsm_transition.md R222). -/
  | timeoutAckLow
  /-- TIMEOUT.AckHigh: the transition taken when the timer expires in AckHigh (43_fsm_transition.md R223). -/
  | timeoutAckHigh
  /-- TIMEOUT.AckVerify: the transition taken when the timer expires in AckVerify (43_fsm_transition.md R224). -/
  | timeoutAckVerify
  /-- TIMEOUT.DataLow: the transition taken when the timer expires in DataLow (43_fsm_transition.md R225). -/
  | timeoutDataLow
  /-- TIMEOUT.DataHigh: the transition taken when the timer expires in DataHigh (43_fsm_transition.md R226). -/
  | timeoutDataHigh
  /-- ENTER.Idle: the entry action of Idle (42_fsm_entry.md R181). -/
  | enterIdle
  /-- ENTER.FreeTime: the entry action of FreeTime (42_fsm_entry.md R182). -/
  | enterFreeTime
  /-- ENTER.StartLow: the entry action of StartLow (42_fsm_entry.md R183). -/
  | enterStartLow
  /-- ENTER.StartHigh: the entry action of StartHigh (42_fsm_entry.md R184). -/
  | enterStartHigh
  /-- ENTER.HeaderInitLow: the entry action of HeaderInitLow (42_fsm_entry.md R185). -/
  | enterHeaderInitLow
  /-- ENTER.HeaderInitHigh: the entry action of HeaderInitHigh (42_fsm_entry.md R186). -/
  | enterHeaderInitHigh
  /-- ENTER.HeaderDestLow: the entry action of HeaderDestLow (42_fsm_entry.md R187). -/
  | enterHeaderDestLow
  /-- ENTER.HeaderDestHigh: the entry action of HeaderDestHigh (42_fsm_entry.md R188). -/
  | enterHeaderDestHigh
  /-- ENTER.EomLow: the entry action of EomLow (42_fsm_entry.md R189). -/
  | enterEomLow
  /-- ENTER.EomHigh: the entry action of EomHigh (42_fsm_entry.md R190). -/
  | enterEomHigh
  /-- ENTER.AckLow: the entry action of AckLow (42_fsm_entry.md R191). -/
  | enterAckLow
  /-- ENTER.AckHigh: the entry action of AckHigh (42_fsm_entry.md R192). -/
  | enterAckHigh
  /-- ENTER.AckVerify: the entry action of AckVerify (42_fsm_entry.md R193). -/
  | enterAckVerify
  /-- ENTER.DataLow: the entry action of DataLow (42_fsm_entry.md R194). -/
  | enterDataLow
  /-- ENTER.DataHigh: the entry action of DataHigh (42_fsm_entry.md R195). -/
  | enterDataHigh
  /-- T_START_LOW: TICKS of ROM[0] (40_timing_table.md R133). -/
  | tStartLow
  /-- T_START_HIGH: TICKS of ROM[1] (40_timing_table.md R134). -/
  | tStartHigh
  /-- T_ZERO_LOW: TICKS of ROM[2] (40_timing_table.md R135). -/
  | tZeroLow
  /-- T_ZERO_HIGH: TICKS of ROM[3] (40_timing_table.md R136). -/
  | tZeroHigh
  /-- T_ONE_LOW: TICKS of ROM[4] (40_timing_table.md R137). -/
  | tOneLow
  /-- T_ONE_HIGH: TICKS of ROM[5] (40_timing_table.md R138). -/
  | tOneHigh
  /-- T_FREE_NI: TICKS of ROM[6] (40_timing_table.md R139). -/
  | tFreeNi
  /-- T_FREE_RS: TICKS of ROM[7] (40_timing_table.md R140). -/
  | tFreeRs
  /-- T_BIT_PERIOD: TICKS of ROM[8] (40_timing_table.md R141). -/
  | tBitPeriod
  /-- T_SAMPLE: TICKS of ROM[9] (40_timing_table.md R142). -/
  | tSample
  /-- TICKS: micro-operation (40_timing_table.md R132). -/
  | ticks (us : Micros)
  /-- LOW_TICKS: micro-operation (40_timing_table.md R143). -/
  | lowTicks (bit : Bit)
  /-- HIGH_TICKS: micro-operation (40_timing_table.md R144). -/
  | highTicks (bit : Bit)
  /-- ACK_HIGH_TICKS: micro-operation (40_timing_table.md R145). -/
  | ackHighTicks
  /-- ACK_VERIFY_TICKS: micro-operation (40_timing_table.md R146). -/
  | ackVerifyTicks
  /-- CUR.RESET: micro-operation (41_cursor.md R161). -/
  | curReset
  /-- CUR.BIT: micro-operation (41_cursor.md R162). -/
  | curBit
  /-- CUR.ADV: micro-operation (41_cursor.md R163). -/
  | curAdv
  /-- CUR.EOM: micro-operation (41_cursor.md R164; its operand is always `LEN`). -/
  | curEom
  /-- TMR.ARM: micro-operation (44_timer_adapter.md R251). -/
  | tmrArm (n : Nat)
  /-- TMR.STOP: micro-operation (44_timer_adapter.md R252). -/
  | tmrStop
  /-- LINE.SET: micro-operation (44_timer_adapter.md R259). -/
  | lineSet (v : Bit)
  /-- LINE.GET: micro-operation (44_timer_adapter.md R261). -/
  | lineGet
  /-- ACK.SAMPLE: micro-operation (42_fsm_entry.md R196). -/
  | ackSample
  /-- EVT.POST: micro-operation (45_result_notifier.md R281). -/
  | evtPost (flag : Flag)
  /-- ROM.READ: micro-operation (40_timing_table.md R131). -/
  | romRead (a : BitVec 4)
  deriving DecidableEq, Repr

end Sys2Proof
end

