-- ==== Sys2Proof/WellFormed.lean ====
section
/-!
DEFINITION. Which instructions the byte form can carry.
-/
namespace Sys2Proof

/-- The most bytes a SEND's one-byte count can announce (log 2). -/
def maxSendBytes : Nat := 255

/-- An operand fits its encoding: a SEND's bytes are few enough for the count byte, the basis of INIT and the count of
TMR.ARM have 32 bits (30_encoding.md R104; log 2). A length the block answers with `invalid` (17 and above) is
well-formed (44_timer_adapter.md R256); so is an operand the block refuses (a basis that is not admitted, ROM addresses
10 to 15, a zero count). -/
def Instr.wellFormed : Instr → Bool
  | .init basis => decide (basis < 2 ^ 32)
  | .send bytes => decide (bytes.length ≤ maxSendBytes)
  | .tmrArm n => decide (n < 2 ^ 32)
  | .reset | .poll | .start | .tick => true
  | .timeoutIdle | .timeoutFreeTime | .timeoutStartLow | .timeoutStartHigh | .timeoutHeaderInitLow
  | .timeoutHeaderInitHigh | .timeoutHeaderDestLow | .timeoutHeaderDestHigh | .timeoutEomLow | .timeoutEomHigh
  | .timeoutAckLow | .timeoutAckHigh | .timeoutAckVerify | .timeoutDataLow | .timeoutDataHigh => true
  | .enterIdle | .enterFreeTime | .enterStartLow | .enterStartHigh | .enterHeaderInitLow
  | .enterHeaderInitHigh | .enterHeaderDestLow | .enterHeaderDestHigh | .enterEomLow | .enterEomHigh
  | .enterAckLow | .enterAckHigh | .enterAckVerify | .enterDataLow | .enterDataHigh => true
  | .tStartLow | .tStartHigh | .tZeroLow | .tZeroHigh | .tOneLow
  | .tOneHigh | .tFreeNi | .tFreeRs | .tBitPeriod | .tSample => true
  | .ticks _ | .lowTicks _ | .highTicks _ | .ackHighTicks | .ackVerifyTicks
  | .curReset | .curBit | .curAdv | .curEom
  | .tmrStop | .lineSet _ | .lineGet | .ackSample | .evtPost _ | .romRead _ => true

end Sys2Proof
end

