-- ==== Sys2Proof/Decode.lean ====
section
/-!
DEFINITION. The byte form of an operation: one byte that holds its format and its key (30_encoding.md R90, R104),
then its operands, each little-endian. The spec gives the keys and says that no hardware compares them; the format
tag of the ROM and UOP keys, the operand bytes and their order are the model's (log 2).
-/
namespace Sys2Proof

/-! ## Codes (30_encoding.md R91) -/

/-- The 4-bit code of a state (30_encoding.md R91). -/
def stateCode : Fsm → BitVec 4
  | .idle => 0
  | .freeTime => 1
  | .startLow => 2
  | .startHigh => 3
  | .headerInitLow => 4
  | .headerInitHigh => 5
  | .headerDestLow => 6
  | .headerDestHigh => 7
  | .eomLow => 8
  | .eomHigh => 9
  | .ackLow => 10
  | .ackHigh => 11
  | .ackVerify => 12
  | .dataLow => 13
  | .dataHigh => 14

/-- The fifteen states in the order of their codes (30_encoding.md R91). -/
def states : List Fsm :=
  [.idle, .freeTime, .startLow, .startHigh, .headerInitLow, .headerInitHigh, .headerDestLow, .headerDestHigh,
   .eomLow, .eomHigh, .ackLow, .ackHigh, .ackVerify, .dataLow, .dataHigh]

/-- The state of a code; 15 is none (30_encoding.md R103 (a)). -/
def stateOfCode (c : BitVec 4) : Option Fsm := states[c.toNat]?

/-- The TIMEOUT operation of a state (30_encoding.md R104). -/
def timeoutInstr : Fsm → Instr
  | .idle => .timeoutIdle
  | .freeTime => .timeoutFreeTime
  | .startLow => .timeoutStartLow
  | .startHigh => .timeoutStartHigh
  | .headerInitLow => .timeoutHeaderInitLow
  | .headerInitHigh => .timeoutHeaderInitHigh
  | .headerDestLow => .timeoutHeaderDestLow
  | .headerDestHigh => .timeoutHeaderDestHigh
  | .eomLow => .timeoutEomLow
  | .eomHigh => .timeoutEomHigh
  | .ackLow => .timeoutAckLow
  | .ackHigh => .timeoutAckHigh
  | .ackVerify => .timeoutAckVerify
  | .dataLow => .timeoutDataLow
  | .dataHigh => .timeoutDataHigh

/-- The ENTER operation of a state (30_encoding.md R104). -/
def enterInstr : Fsm → Instr
  | .idle => .enterIdle
  | .freeTime => .enterFreeTime
  | .startLow => .enterStartLow
  | .startHigh => .enterStartHigh
  | .headerInitLow => .enterHeaderInitLow
  | .headerInitHigh => .enterHeaderInitHigh
  | .headerDestLow => .enterHeaderDestLow
  | .headerDestHigh => .enterHeaderDestHigh
  | .eomLow => .enterEomLow
  | .eomHigh => .enterEomHigh
  | .ackLow => .enterAckLow
  | .ackHigh => .enterAckHigh
  | .ackVerify => .enterAckVerify
  | .dataLow => .enterDataLow
  | .dataHigh => .enterDataHigh

/-- The ROM operations in the order of their addresses (30_encoding.md R92). -/
def romInstrs : List Instr :=
  [.tStartLow, .tStartHigh, .tZeroLow, .tZeroHigh, .tOneLow,
   .tOneHigh, .tFreeNi, .tFreeRs, .tBitPeriod, .tSample]

/-! ## Reading -/

/-- Why bytes are no operation. -/
inductive DecodeError where
  /-- the bytes end inside an operation -/
  | truncated
  /-- the first byte is no operation's -/
  | reservedOpcode (op : Byte)
  /-- an operand byte holds a value the operand does not have -/
  | reservedOperand (b : Byte)
  deriving DecidableEq, Repr

/-- What reading one thing off the front of the bytes gives: the thing and the bytes after it, or the reason. -/
abbrev Read (α : Type) := Except DecodeError (α × List Byte)

/-- A 16-bit operand, low byte first. -/
def readMicros : List Byte → Read Micros
  | b0 :: b1 :: bs => .ok (b1 ++ b0, bs)
  | _ => .error .truncated

/-- A 32-bit operand, low byte first. -/
def readWord : List Byte → Read Word
  | b0 :: b1 :: b2 :: b3 :: bs => .ok (b3 ++ b2 ++ b1 ++ b0, bs)
  | _ => .error .truncated

/-- A 1-bit operand: the byte 0 or 1. -/
def readBit : List Byte → Read Bit
  | b :: bs => if b = 0 then .ok (false, bs) else if b = 1 then .ok (true, bs) else .error (.reservedOperand b)
  | [] => .error .truncated

/-- A 4-bit operand: a byte below 16. -/
def readNibble : List Byte → Read (BitVec 4)
  | b :: bs => if b.toNat < 16 then .ok (b.setWidth 4, bs) else .error (.reservedOperand b)
  | [] => .error .truncated

/-- A result flag: the byte 1 (`SEND_OK`) or 2 (`SEND_FAILED`), its default value (30_encoding.md R93; log 2). -/
def readFlag : List Byte → Read Flag
  | b :: bs =>
    if b = 1 then .ok (.sendOk, bs) else if b = 2 then .ok (.sendFailed, bs) else .error (.reservedOperand b)
  | [] => .error .truncated

/-- A message: a count byte, then that many bytes. -/
def readMessage : List Byte → Read (List Byte)
  | n :: bs => if n.toNat ≤ bs.length then .ok (bs.take n.toNat, bs.drop n.toNat) else .error .truncated
  | [] => .error .truncated

/-- The instruction made of the operand that was read. -/
def withOperand {α : Type} (make : α → Instr) : Read α → Read Instr
  | .ok (a, bs) => .ok (make a, bs)
  | .error e => .error e

/-- An instruction with no operand bytes, where the key has one. -/
def plain (op : Byte) (bs : List Byte) : Option Instr → Read Instr
  | some i => .ok (i, bs)
  | none => .error (.reservedOpcode op)

/-- Formats HOST and EVENT, key `eee` (30_encoding.md R104). -/
def decodeHost (op : Byte) (bs : List Byte) : Read Instr :=
  match op.toNat % 16 with
  | 0 => .ok (.reset, bs)
  | 1 => withOperand (fun w => .init w.toNat) (readWord bs)
  | 2 => withOperand .send (readMessage bs)
  | 3 => .ok (.poll, bs)
  | 4 => .ok (.start, bs)
  | 5 => .ok (.tick, bs)
  | _ => .error (.reservedOpcode op)

/-- Format UOP, key `uuuu` (30_encoding.md R104). -/
def decodeUop (op : Byte) (bs : List Byte) : Read Instr :=
  match op.toNat % 16 with
  | 0 => withOperand .ticks (readMicros bs)
  | 1 => withOperand .lowTicks (readBit bs)
  | 2 => withOperand .highTicks (readBit bs)
  | 3 => .ok (.ackHighTicks, bs)
  | 4 => .ok (.ackVerifyTicks, bs)
  | 5 => .ok (.curReset, bs)
  | 6 => .ok (.curBit, bs)
  | 7 => .ok (.curAdv, bs)
  | 8 => .ok (.curEom, bs)
  | 9 => withOperand (fun w => .tmrArm w.toNat) (readWord bs)
  | 10 => .ok (.tmrStop, bs)
  | 11 => withOperand .lineSet (readBit bs)
  | 12 => .ok (.lineGet, bs)
  | 13 => .ok (.ackSample, bs)
  | 14 => withOperand .evtPost (readFlag bs)
  | 15 => withOperand .romRead (readNibble bs)
  | _ => .error (.reservedOpcode op)

/-- One operation off the front of the bytes. The high half of the first byte tells the format: 0 HOST or EVENT,
1 ROM, 2 UOP, 6 TIMEOUT (key `110ssss`), 7 ENTER (key `111ssss`); the low half is the rest of the key. -/
def decode : List Byte → Read Instr
  | [] => .error .truncated
  | op :: bs =>
    match op.toNat / 16 with
    | 0 => decodeHost op bs
    | 1 => plain op bs romInstrs[op.toNat % 16]?
    | 2 => decodeUop op bs
    | 6 => plain op bs ((stateOfCode (op.setWidth 4)).map timeoutInstr)
    | 7 => plain op bs ((stateOfCode (op.setWidth 4)).map enterInstr)
    | _ => .error (.reservedOpcode op)

/-! ## Writing -/

/-- The bytes of a 16-bit operand. -/
def microsBytes (us : Micros) : List Byte := [us.extractLsb' 0 8, us.extractLsb' 8 8]

/-- The bytes of a 32-bit operand. -/
def wordBytes (w : Word) : List Byte :=
  [w.extractLsb' 0 8, w.extractLsb' 8 8, w.extractLsb' 16 8, w.extractLsb' 24 8]

/-- The byte of a 1-bit operand. -/
def bitByte (b : Bit) : Byte := if b then 1 else 0

/-- The byte of a result flag. -/
def flagByte : Flag → Byte
  | .sendOk => 1
  | .sendFailed => 2

/-- The first byte of an operation. -/
def opcode : Instr → Byte
  | .reset => 0x0
  | .init _ => 0x1
  | .send _ => 0x2
  | .poll => 0x3
  | .start => 0x4
  | .tick => 0x5
  | .timeoutIdle => 0x60
  | .timeoutFreeTime => 0x61
  | .timeoutStartLow => 0x62
  | .timeoutStartHigh => 0x63
  | .timeoutHeaderInitLow => 0x64
  | .timeoutHeaderInitHigh => 0x65
  | .timeoutHeaderDestLow => 0x66
  | .timeoutHeaderDestHigh => 0x67
  | .timeoutEomLow => 0x68
  | .timeoutEomHigh => 0x69
  | .timeoutAckLow => 0x6a
  | .timeoutAckHigh => 0x6b
  | .timeoutAckVerify => 0x6c
  | .timeoutDataLow => 0x6d
  | .timeoutDataHigh => 0x6e
  | .enterIdle => 0x70
  | .enterFreeTime => 0x71
  | .enterStartLow => 0x72
  | .enterStartHigh => 0x73
  | .enterHeaderInitLow => 0x74
  | .enterHeaderInitHigh => 0x75
  | .enterHeaderDestLow => 0x76
  | .enterHeaderDestHigh => 0x77
  | .enterEomLow => 0x78
  | .enterEomHigh => 0x79
  | .enterAckLow => 0x7a
  | .enterAckHigh => 0x7b
  | .enterAckVerify => 0x7c
  | .enterDataLow => 0x7d
  | .enterDataHigh => 0x7e
  | .tStartLow => 0x10
  | .tStartHigh => 0x11
  | .tZeroLow => 0x12
  | .tZeroHigh => 0x13
  | .tOneLow => 0x14
  | .tOneHigh => 0x15
  | .tFreeNi => 0x16
  | .tFreeRs => 0x17
  | .tBitPeriod => 0x18
  | .tSample => 0x19
  | .ticks _ => 0x20
  | .lowTicks _ => 0x21
  | .highTicks _ => 0x22
  | .ackHighTicks => 0x23
  | .ackVerifyTicks => 0x24
  | .curReset => 0x25
  | .curBit => 0x26
  | .curAdv => 0x27
  | .curEom => 0x28
  | .tmrArm _ => 0x29
  | .tmrStop => 0x2a
  | .lineSet _ => 0x2b
  | .lineGet => 0x2c
  | .ackSample => 0x2d
  | .evtPost _ => 0x2e
  | .romRead _ => 0x2f

/-- The operand bytes of an operation. -/
def operandBytes : Instr → List Byte
  | .init basis => wordBytes (BitVec.ofNat 32 basis)
  | .send bytes => BitVec.ofNat 8 bytes.length :: bytes
  | .ticks us => microsBytes us
  | .lowTicks bit | .highTicks bit => [bitByte bit]
  | .tmrArm n => wordBytes (BitVec.ofNat 32 n)
  | .lineSet v => [bitByte v]
  | .evtPost flag => [flagByte flag]
  | .romRead a => [a.setWidth 8]
  | .reset | .poll | .start | .tick => []
  | .timeoutIdle | .timeoutFreeTime | .timeoutStartLow | .timeoutStartHigh | .timeoutHeaderInitLow
  | .timeoutHeaderInitHigh | .timeoutHeaderDestLow | .timeoutHeaderDestHigh | .timeoutEomLow | .timeoutEomHigh
  | .timeoutAckLow | .timeoutAckHigh | .timeoutAckVerify | .timeoutDataLow | .timeoutDataHigh => []
  | .enterIdle | .enterFreeTime | .enterStartLow | .enterStartHigh | .enterHeaderInitLow
  | .enterHeaderInitHigh | .enterHeaderDestLow | .enterHeaderDestHigh | .enterEomLow | .enterEomHigh
  | .enterAckLow | .enterAckHigh | .enterAckVerify | .enterDataLow | .enterDataHigh => []
  | .tStartLow | .tStartHigh | .tZeroLow | .tZeroHigh | .tOneLow
  | .tOneHigh | .tFreeNi | .tFreeRs | .tBitPeriod | .tSample => []
  | .ackHighTicks | .ackVerifyTicks | .curReset | .curBit | .curAdv
  | .curEom | .tmrStop | .lineGet | .ackSample => []

/-- The bytes of an operation. -/
def encode (i : Instr) : List Byte := opcode i :: operandBytes i

/-! ## The numbering of spec/opcode_table.json -/

/-- The `n` low bytes of `w`, lowest first. -/
def lowBytes : Nat → Nat → List Byte
  | 0, _ => []
  | n + 1, w => BitVec.ofNat 8 w :: lowBytes n (w / 256)

/-- How many zero bytes complete the longest instruction that starts with these bytes: a SEND needs as many as its
count byte says, no other operation more than four operand bytes. -/
def missingBytes : List Byte → Nat
  | op :: n :: _ => if op = opcode (.send []) then n.toNat else 4
  | _ => 4

/-- An instruction whose `nbits` bits are `w`, laid out as bytes, the bits above `nbits` zero up to the longest
instruction. -/
def tableBytes (nbits w : Nat) : List Byte :=
  let given := lowBytes ((nbits + 7) / 8) (w % 2 ^ nbits)
  given ++ List.replicate (missingBytes given) 0

/-- The instruction the decoder reads from those bytes. -/
def decodeTableWord (nbits w : Nat) : Option Instr :=
  match decode (tableBytes nbits w) with
  | .ok (i, _) => some i
  | .error _ => none

/-- The bytes of that instruction alone, or all of the bytes where the decoder refuses them. -/
def tableInstrBytes (nbits w : Nat) : List Byte :=
  match decode (tableBytes nbits w) with
  | .ok (i, _) => encode i
  | .error _ => tableBytes nbits w

end Sys2Proof
end

