-- ==== Sys2Proof/Machine/State.lean ====
section
/-!
DEFINITION. The state of the block (10_state.md R21 to R38), the reasons a step can stop, and the state after reset
(10_state.md R41).
-/
namespace Sys2Proof.Machine

/-- Contents of the 4-bit register `STATE`: a state by name, or the code 15 that names none (30_encoding.md R91,
R103 (a); log 9). -/
inductive StateReg where
  | named (f : Fsm)
  | reserved
  deriving DecidableEq, Repr

/-- The result of SEND (30_encoding.md R94). -/
inductive SendResult where
  | accepted
  | busy
  | invalid
  deriving DecidableEq, Repr

/-- What an operation returns (00_scope.md R11; log 17). -/
inductive Ret where
  | nothing
  /-- a tick count (40_timing_table.md R132 to R146) -/
  | ticks (n : Nat)
  /-- a ROM entry (40_timing_table.md R131) -/
  | micros (us : Micros)
  /-- a bit or a line level (41_cursor.md R162, R164; 44_timer_adapter.md R261) -/
  | bit (b : Bit)
  /-- the flag word (45_result_notifier.md R282) -/
  | word (w : Nat)
  /-- the result of SEND (44_timer_adapter.md R256) -/
  | send (r : SendResult)
  deriving DecidableEq, Repr

/-- The state of the block, its parameters, its environment's pending inputs and the value last returned. `LEN`, `BYTE`
and `RESENDS` hold their ranges and nothing beyond (30_encoding.md R103 (e); log 19); the registers whose width is a
parameter are naturals, below 2 to that width in a sound state (92_eei_decisions.md D3; log 8). -/
structure State where
  /-- The open parameters of the block (00_scope.md R7), which no operation writes (log 8). -/
  params : Params
  /-- `STATE` (R21) -/
  state : StateReg
  /-- `MSG[0..15]` (R22) -/
  msg : Vector Byte 16
  /-- `LEN` (R23): 0 to 16 -/
  len : Fin 17
  /-- `BYTE` (R24): 0 to 16 -/
  byte : Fin 17
  /-- `BIT` (R25) -/
  bit : BitVec 3
  /-- `RESENDS` (R26): 0 to 5 -/
  resends : Fin 6
  /-- `ACK` (R27) -/
  ack : Bit
  /-- `CLKBASIS` (R28): `BASIS_W` bits -/
  clkBasis : Nat
  /-- `INITED` (R29) -/
  inited : Bit
  /-- `LINE_OUT` (R30): true is released, false is driven low -/
  lineOut : Bit
  /-- `TMR_ARMED` (R31) -/
  tmrArmed : Bit
  /-- `TMR_CNT` (R32): `TIMER_W` bits -/
  tmrCnt : Nat
  /-- `TRIG` (R33) -/
  trig : Bit
  /-- `PENDING` (R34): `PENDING_W` bits -/
  pending : Nat
  /-- `ROM[0..9]` (R35), read-only -/
  rom : Vector Micros 10
  /-- `FAULTED` (R38) -/
  faulted : Bit
  /-- The model's: what the operation just executed returned (log 17). -/
  ret : Ret
  /-- The model's: the bytes of the operations still to be issued, in order (log 1). -/
  inputs : List Byte
  /-- The model's: the follower levels laid down for the next line reads, in order (30_encoding.md R106; log 4). -/
  followers : List Bit
  /-- The model's: how many free values have been drawn (log 4). -/
  draws : Nat
  deriving DecidableEq, Repr

/-- The reasons the block stops. -/
inductive Fault where
  /-- `Fault(IllegalState)`: raised by every operation but RESET while `FAULTED` is set (10_state.md R38,
  60_exceptions.md R304). Safe: no step is enabled there on the block either. -/
  | illegalState
  deriving DecidableEq, Repr

/-- The operations the model gives no meaning (60_exceptions.md R305), and steps that are not enabled. -/
inductive Refusal where
  /-- An instruction without a meaning; raised by no arm of this model. Safe. -/
  | notModelled (mnemonic : String)
  /-- `refuse(NotInitialised)`: SEND while `INITED = 0` (44_timer_adapter.md R256). Safe. -/
  | notInitialised
  /-- `refuse(InitDuringTransfer)`: INIT while `LEN != 0` (44_timer_adapter.md R257). Safe. -/
  | initDuringTransfer
  /-- `refuse(BasisNotAdmitted)`: INIT of a basis R147 does not admit (44_timer_adapter.md R257). Safe. -/
  | basisNotAdmitted
  /-- `refuse(RomAddress)`: ROM.READ of an address above 9 (40_timing_table.md R131). Safe. -/
  | romAddress
  /-- `refuse(ArmZero)`: the timer armed with 0 ticks (44_timer_adapter.md R251). Safe. -/
  | armZero
  /-- `BYTE` stepped past 16, which no rule gives a meaning and the spec refuses (93_implementation_defined.md U19;
  log 14). Safe. -/
  | byteRange
  /-- START while `TRIG = 0`: the step is not enabled (44_timer_adapter.md R255; log 11). Safe. -/
  | startNotEnabled
  /-- The next bytes of `inputs` are no operation; raised by the fetch (log 2). Safe. -/
  | undecodable (why : DecodeError)
  deriving DecidableEq, Repr

/-- The outcome of an operation. -/
abbrev Out := Host.Outcome State Fault Refusal

/-- The state after reset (10_state.md R41). `CLKBASIS` is unspecified there; the model names 0 (log 5). The ROM
holds its default contents (log 7) and the parameters their defaults (log 8). Nothing is pending from outside. -/
def State.reset : State where
  params := .defaults
  state := .named .idle
  msg := Vector.replicate 16 0
  len := 0
  byte := 0
  bit := 0
  resends := 0
  ack := false
  clkBasis := 0
  inited := false
  lineOut := true
  tmrArmed := false
  tmrCnt := 0
  trig := false
  pending := 0
  rom := Config.romDefault
  faulted := false
  ret := .nothing
  inputs := []
  followers := []
  draws := 0

end Sys2Proof.Machine
end

