-- ==== Sys2Proof/Machine/Ops.lean ====
section
/-!
DEFINITION. The named operations on the registers, the draws of the environment, the illegal-state fault and the way
out of it.
-/
namespace Sys2Proof.Machine

/-! ## Outcomes -/

/-- Go on from the next state; a fault or a refusal stays. -/
def andThen (o : Out) (f : State → Out) : Out :=
  match o with
  | .next s => f s
  | .fault r => .fault r
  | .refused r => .refused r

/-- Complete with a value returned (00_scope.md R11). -/
def returning (r : Ret) (s : State) : Out := .next { s with ret := r }

/-! ## Registers -/

/-- `STATE <- S` (42_fsm_entry.md R180). -/
def setState (f : Fsm) (s : State) : State := { s with state := .named f }

/-- `LINE.SET v`: 1 releases the line, 0 drives it low (44_timer_adapter.md R259). -/
def setLine (v : Bit) (s : State) : State := { s with lineOut := v }

/-- Load the one-shot timer and start it (44_timer_adapter.md R251). -/
def loadTimer (n : Nat) (s : State) : State := { s with tmrCnt := n, tmrArmed := true }

/-- What `TMR_CNT` holds after it is armed with `n`: `n` where it fits the register, else a free value of the register's
width (44_timer_adapter.md R251; log 12). -/
def countFor (n : Nat) (s : State) : Nat :=
  if n < 2 ^ s.params.timerW then n else (Config.oversizeCount s.params.timerW n).toNat

/-- `TMR.ARM n`: a count of 0 is refused (44_timer_adapter.md R251). Arming while armed overwrites the pending expiry. -/
def armTimer (n : Nat) (s : State) : Out :=
  if n = 0 then .refused .armZero else .next (loadTimer (countFor n s) s)

/-- `TMR.STOP` (44_timer_adapter.md R252). -/
def stopTimer (s : State) : State := { s with tmrArmed := false, tmrCnt := 0 }

/-- One tick of an armed timer that does not expire (44_timer_adapter.md R253). -/
def countDown (s : State) : State := { s with tmrCnt := s.tmrCnt - 1 }

/-- `CUR.RESET` (41_cursor.md R161). -/
def resetCursor (s : State) : State := { s with byte := 0, bit := 0 }

/-- `BYTE <- BYTE + 1`, refused where that is past 16 (41_cursor.md R163, 93_implementation_defined.md U19; log 14). -/
def nextByte (s : State) : Out :=
  if s.byte.val < 16 then .next { s with byte := s.byte + 1 } else .refused .byteRange

/-- `CUR.ADV` (41_cursor.md R163). -/
def advanceCursor (s : State) : Out :=
  if s.bit = 7 then nextByte { s with bit := 0 } else .next { s with bit := s.bit + 1 }

/-- `ACK <- a` (42_fsm_entry.md R196). -/
def setAck (a : Bit) (s : State) : State := { s with ack := a }

/-- `RESENDS <- n` (43_fsm_transition.md R224, 44_timer_adapter.md R255). -/
def setResends (n : Fin 6) (s : State) : State := { s with resends := n }

/-- `LEN <- 0; RESENDS <- 0`, the end of a transfer (43_fsm_transition.md R224). -/
def clearTransfer (s : State) : State := { s with len := 0, resends := 0 }

/-- `EVT.POST`: OR a flag word into `PENDING` (45_result_notifier.md R281). -/
def orPending (w : Nat) (s : State) : State := { s with pending := s.pending ||| w }

/-- `PENDING <- 0` (45_result_notifier.md R282). -/
def clearPending (s : State) : State := { s with pending := 0 }

/-- `TRIG <- v` (44_timer_adapter.md R255, R256). -/
def setTrig (v : Bit) (s : State) : State := { s with trig := v }

/-- `CLKBASIS <- B; INITED <- 1` (44_timer_adapter.md R257). -/
def setBasis (b : Nat) (s : State) : State := { s with clkBasis := b, inited := true }

/-- `MSG[i] <- b[0]; MSG[i+1] <- b[1]; ...`, nothing past `MSG[15]` (44_timer_adapter.md R256). -/
def copyBytes : List Byte → Nat → Vector Byte 16 → Vector Byte 16
  | [], _, m => m
  | b :: bs, i, m => copyBytes bs (i + 1) (m.setIfInBounds i b)

/-- The copy of an accepted SEND: the bytes, `LEN`, `TRIG` (44_timer_adapter.md R256). -/
def loadMessage (bytes : List Byte) (s : State) : State :=
  { s with msg := copyBytes bytes 0 s.msg, len := Fin.ofNat 17 bytes.length, trig := true }

/-! ## Draws of the environment -/

/-- The followers' level at a line read: the next one laid down, else a free value (44_timer_adapter.md R261;
log 4). -/
def drawFollower (s : State) : Bit × State :=
  match s.followers with
  | f :: fs => (f, { s with followers := fs })
  | [] => (Config.followerLevel s.draws, { s with draws := s.draws + 1 })

/-! ## The illegal-state fault -/

/-- `raise Fault(IllegalState)`: `FAULTED <- 1` and no other register written (43_fsm_transition.md R227; log 9). -/
def raiseIllegalState (s : State) : State := { s with faulted := true }

/-- RESET writes every register and is the only way out of `FAULTED` (70_reset_and_hazards.md R350). `CLKBASIS` is
unspecified after it: a free value of its width (log 6). The parameters, the ROM and the environment's inputs are not
registers it writes. -/
def resetRegisters (s : State) : State :=
  { s with
    state := .named .idle, msg := Vector.replicate 16 0, len := 0, byte := 0, bit := 0, resends := 0, ack := false
    clkBasis := (Config.resetBasis s.params.basisW s.draws).toNat, draws := s.draws + 1, inited := false, lineOut := true
    tmrArmed := false, tmrCnt := 0, trig := false, pending := 0, faulted := false }

/-- Run an operation that is enabled unless `FAULTED` (10_state.md R38); it starts with nothing returned. -/
def whenLive (s : State) (f : State → Out) : Out :=
  if s.faulted then .fault .illegalState else f { s with ret := .nothing }

end Sys2Proof.Machine
end

