-- ==== Sys2Proof/Machine/Flags.lean ====
section
/-!
DEFINITION. The one-bit results the block computes, its derived outputs and its result codes.
-/
namespace Sys2Proof.Machine

/-- `BUS = LINE_OUT & FOLLOWER`, the wired-AND of an open-drain line (44_timer_adapter.md R260). -/
def busLevel (lineOut follower : Bit) : Bit := lineOut && follower

/-- The acknowledgment flag from the sampled level: low acknowledges a direct message, high a broadcast
(42_fsm_entry.md R196). -/
def ackOf (dest : BitVec 4) (level : Bit) : Bit := if dest = Config.broadcast then level else !level

/-- `in_progress = (LEN != 0)` (10_state.md R37). -/
def inProgress (s : State) : Bit := decide (s.len ≠ 0)

/-- `evt_avail = (PENDING != 0)` (45_result_notifier.md R283). -/
def evtAvail (s : State) : Bit := decide (s.pending ≠ 0)

/-- The value of a result flag: one bit at its position (30_encoding.md R93). -/
def flagWord (p : Params) : Flag → Nat
  | .sendOk => 2 ^ p.okBit
  | .sendFailed => 2 ^ p.failedBit

/-- The bits of `PENDING` that a rule may set (30_encoding.md R93). -/
def flagMask (p : Params) : Nat := flagWord p .sendOk ||| flagWord p .sendFailed

/-- The code of SEND's result (30_encoding.md R94). -/
def sendResultCode : SendResult → BitVec 2
  | .accepted => 0
  | .busy => 1
  | .invalid => 2

/-- The three values of the source's `poll_result` (45_result_notifier.md R284). -/
inductive PollResult where
  | none
  | ok
  | failed
  deriving DecidableEq, Repr

/-- The three-valued view of the word POLL returns: the word with both flags, and any word no rule produces, has no value
there (45_result_notifier.md R284). -/
def pollView (p : Params) (w : Nat) : Option PollResult :=
  if w = 0 then some .none
  else if w = flagWord p .sendOk then some .ok
  else if w = flagWord p .sendFailed then some .failed
  else Option.none

end Sys2Proof.Machine
end

