-- ==== Sys2Proof/Machine/Operands.lean ====
section
/-!
DEFINITION. The four operands the block assembles (30_encoding.md R102): a tick count from a ROM entry, the bit to
send, the destination nibble and the EOM value; and which bases are admitted.
-/
namespace Sys2Proof.Machine

/-! ## Tick counts (40_timing_table.md) -/

/-- `floor(us * B / 10000)`, the product exact (R132). -/
def ticksOf (us : Micros) (basis : Nat) : Nat := us.toNat * basis / Config.basisMicros

/-- `TICKS us` with the basis the block holds (R132). -/
def ticks (us : Micros) (s : State) : Nat := ticksOf us s.clkBasis

/-- `T_START_LOW` (R133). -/
def tStartLow (s : State) : Nat := ticks s.rom[0] s
/-- `T_START_HIGH` (R134). -/
def tStartHigh (s : State) : Nat := ticks s.rom[1] s
/-- `T_ZERO_LOW` (R135). -/
def tZeroLow (s : State) : Nat := ticks s.rom[2] s
/-- `T_ZERO_HIGH` (R136). -/
def tZeroHigh (s : State) : Nat := ticks s.rom[3] s
/-- `T_ONE_LOW` (R137). -/
def tOneLow (s : State) : Nat := ticks s.rom[4] s
/-- `T_ONE_HIGH` (R138). -/
def tOneHigh (s : State) : Nat := ticks s.rom[5] s
/-- `T_FREE_NI` (R139). -/
def tFreeNi (s : State) : Nat := ticks s.rom[6] s
/-- `T_FREE_RS` (R140). -/
def tFreeRs (s : State) : Nat := ticks s.rom[7] s
/-- `T_BIT_PERIOD` (R141). -/
def tBitPeriod (s : State) : Nat := ticks s.rom[8] s
/-- `T_SAMPLE` (R142). -/
def tSample (s : State) : Nat := ticks s.rom[9] s

/-- `LOW_TICKS bit` (R143). -/
def lowTicks (bit : Bit) (s : State) : Nat := if bit then tOneLow s else tZeroLow s

/-- `HIGH_TICKS bit` (R144). -/
def highTicks (bit : Bit) (s : State) : Nat := if bit then tOneHigh s else tZeroHigh s

/-- A difference of tick counts; a negative one is stated by no rule and is a free value (log 13). -/
def subTicks (a b : Nat) : Nat := if b ≤ a then a - b else Config.underflowTicks a b

/-- `ACK_HIGH_TICKS = T_SAMPLE - T_ONE_LOW` (R145). -/
def ackHighTicks (s : State) : Nat := subTicks (tSample s) (tOneLow s)

/-- `ACK_VERIFY_TICKS = T_BIT_PERIOD - T_SAMPLE` (R146). -/
def ackVerifyTicks (s : State) : Nat := subTicks (tBitPeriod s) (tSample s)

/-- `RomRead(a)`: ten addresses (R131). -/
def romRead (a : BitVec 4) (s : State) : Option Micros := s.rom[a.toNat]?

/-- A count a timer of `w` bits can be armed with (44_timer_adapter.md R251). -/
def fits (w n : Nat) : Bool := decide (1 ≤ n) && decide (n < 2 ^ w)

/-- A basis is admitted (R147), with the widths and the ROM in use; one the register cannot hold is none (log 15). -/
def admitted (p : Params) (rom : Vector Micros 10) (basis : Nat) : Bool :=
  let t (us : Micros) : Nat := ticksOf us basis
  let fits (n : Nat) : Bool := fits p.timerW n
  decide (basis < 2 ^ p.basisW)
    && fits (t rom[0]) && fits (t rom[1]) && fits (t rom[2]) && fits (t rom[3]) && fits (t rom[4]) && fits (t rom[5])
    && fits (t rom[6]) && fits (t rom[7])
    && decide (t rom[4] < t rom[9]) && fits (t rom[9] - t rom[4])
    && decide (t rom[9] < t rom[8]) && fits (t rom[8] - t rom[9])
    && decide (t rom[4] < t rom[2]) && decide (t rom[3] < t rom[5])
    && decide (t rom[7] < t rom[6])

/-! ## The cursor (41_cursor.md) -/

/-- `CUR.BIT`: bit `7 - BIT` of `MSG[BYTE]`, and 0 past the message (R162). -/
def curBit (s : State) : Bit :=
  if h : s.byte.val < s.len.val then
    (s.msg[s.byte.val]'(Nat.lt_of_lt_of_le h (Nat.le_of_lt_succ s.len.isLt))).getLsbD (7 - s.bit.toNat)
  else false

/-- `CUR.EOM` (R164). -/
def curEom (s : State) : Bit := decide (s.bit = 0 ∧ s.byte = s.len)

/-- The destination nibble `MSG[0][3:0]` (30_encoding.md R95). -/
def destNibble (s : State) : BitVec 4 := s.msg[0].extractLsb' 0 4

/-! ## The line (44_timer_adapter.md) -/

/-- `LINE.GET`: the bus level at this instant, with the followers' level drawn (R261). -/
def lineGet (s : State) : Bit × State :=
  match drawFollower s with
  | (f, s') => (busLevel s.lineOut f, s')

end Sys2Proof.Machine
end

