-- ==== Sys2Proof/Machine/Cursor.lean ====
section
/-!
DEFINITION. The message-transfer cursor's operations (41_cursor.md).
-/
namespace Sys2Proof.Machine

/-- CUR.RESET (R161). -/
def execCurReset (s : State) : Out := whenLive s fun s => .next (resetCursor s)

/-- CUR.BIT (R162). -/
def execCurBit (s : State) : Out := whenLive s fun s => returning (.bit (curBit s)) s

/-- CUR.ADV (R163). -/
def execCurAdv (s : State) : Out := whenLive s advanceCursor

/-- CUR.EOM (R164). -/
def execCurEom (s : State) : Out := whenLive s fun s => returning (.bit (curEom s)) s

end Sys2Proof.Machine
end

