-- ==== Sys2Proof/Machine/FsmEntry.lean ====
section
/-!
DEFINITION. The entry actions of the fifteen states and the acknowledgment sampler (42_fsm_entry.md).
-/
namespace Sys2Proof.Machine

/-! ## Shared shapes -/

/-- Drive the line to a level and arm the timer for a duration of the state before it (42_fsm_entry.md, header). -/
def driveFor (level : Bit) (n : Nat) (s : State) : Out := armTimer n (setLine level s)

/-- The low phase of the cell of the current message bit (R185, R187, R194). -/
def driveBitLow (s : State) : Out := driveFor false (lowTicks (curBit s) s) s

/-- The high phase of the cell of the current message bit (R186, R188, R195). -/
def driveBitHigh (s : State) : Out := driveFor true (highTicks (curBit s) s) s

/-- `ACK.SAMPLE`: read the line once and record whether the block was acknowledged (R196). -/
def sampleAck (s : State) : State := setAck (ackOf (destNibble s) (lineGet s).1) (lineGet s).2

/-! ## The entry actions -/

/-- The entry action of Idle (R181). It neither drives the line nor arms the timer. -/
def enterIdle (s : State) : Out := .next (resetCursor s)

/-- The entry action of FreeTime (R182). -/
def enterFreeTime (s : State) : Out := driveFor true (if s.resends = 0 then tFreeNi s else tFreeRs s) s

/-- The entry action of StartLow (R183). -/
def enterStartLow (s : State) : Out := driveFor false (tStartLow s) (resetCursor s)

/-- The entry action of StartHigh (R184). -/
def enterStartHigh (s : State) : Out := driveFor true (tStartHigh s) s

/-- The entry action of HeaderInitLow (R185). -/
def enterHeaderInitLow (s : State) : Out := driveBitLow s

/-- The entry action of HeaderInitHigh (R186). -/
def enterHeaderInitHigh (s : State) : Out := driveBitHigh s

/-- The entry action of HeaderDestLow (R187). -/
def enterHeaderDestLow (s : State) : Out := driveBitLow s

/-- The entry action of HeaderDestHigh (R188). -/
def enterHeaderDestHigh (s : State) : Out := driveBitHigh s

/-- The entry action of EomLow (R189). -/
def enterEomLow (s : State) : Out := driveFor false (lowTicks (curEom s) s) s

/-- The entry action of EomHigh (R190). -/
def enterEomHigh (s : State) : Out := driveFor true (highTicks (curEom s) s) s

/-- The entry action of AckLow (R191). -/
def enterAckLow (s : State) : Out := driveFor false (tOneLow s) s

/-- The entry action of AckHigh (R192). -/
def enterAckHigh (s : State) : Out := driveFor true (ackHighTicks s) s

/-- The entry action of AckVerify (R193). It samples first and does not drive the line. -/
def enterAckVerify (s : State) : Out := armTimer (ackVerifyTicks s) (sampleAck s)

/-- The entry action of DataLow (R194). -/
def enterDataLow (s : State) : Out := driveBitLow s

/-- The entry action of DataHigh (R195). -/
def enterDataHigh (s : State) : Out := driveBitHigh s

/-- `enter(S)`: `STATE <- S`, then the entry action of `S`, in the same handler (R180). -/
def enter (f : Fsm) (s : State) : Out :=
  match f with
  | .idle => enterIdle (setState .idle s)
  | .freeTime => enterFreeTime (setState .freeTime s)
  | .startLow => enterStartLow (setState .startLow s)
  | .startHigh => enterStartHigh (setState .startHigh s)
  | .headerInitLow => enterHeaderInitLow (setState .headerInitLow s)
  | .headerInitHigh => enterHeaderInitHigh (setState .headerInitHigh s)
  | .headerDestLow => enterHeaderDestLow (setState .headerDestLow s)
  | .headerDestHigh => enterHeaderDestHigh (setState .headerDestHigh s)
  | .eomLow => enterEomLow (setState .eomLow s)
  | .eomHigh => enterEomHigh (setState .eomHigh s)
  | .ackLow => enterAckLow (setState .ackLow s)
  | .ackHigh => enterAckHigh (setState .ackHigh s)
  | .ackVerify => enterAckVerify (setState .ackVerify s)
  | .dataLow => enterDataLow (setState .dataLow s)
  | .dataHigh => enterDataHigh (setState .dataHigh s)

/-! ## The operations -/

/-- ENTER.Idle (R181). -/
def execEnterIdle (s : State) : Out := whenLive s enterIdle

/-- ENTER.FreeTime (R182). -/
def execEnterFreeTime (s : State) : Out := whenLive s enterFreeTime

/-- ENTER.StartLow (R183). -/
def execEnterStartLow (s : State) : Out := whenLive s enterStartLow

/-- ENTER.StartHigh (R184). -/
def execEnterStartHigh (s : State) : Out := whenLive s enterStartHigh

/-- ENTER.HeaderInitLow (R185). -/
def execEnterHeaderInitLow (s : State) : Out := whenLive s enterHeaderInitLow

/-- ENTER.HeaderInitHigh (R186). -/
def execEnterHeaderInitHigh (s : State) : Out := whenLive s enterHeaderInitHigh

/-- ENTER.HeaderDestLow (R187). -/
def execEnterHeaderDestLow (s : State) : Out := whenLive s enterHeaderDestLow

/-- ENTER.HeaderDestHigh (R188). -/
def execEnterHeaderDestHigh (s : State) : Out := whenLive s enterHeaderDestHigh

/-- ENTER.EomLow (R189). -/
def execEnterEomLow (s : State) : Out := whenLive s enterEomLow

/-- ENTER.EomHigh (R190). -/
def execEnterEomHigh (s : State) : Out := whenLive s enterEomHigh

/-- ENTER.AckLow (R191). -/
def execEnterAckLow (s : State) : Out := whenLive s enterAckLow

/-- ENTER.AckHigh (R192). -/
def execEnterAckHigh (s : State) : Out := whenLive s enterAckHigh

/-- ENTER.AckVerify (R193). -/
def execEnterAckVerify (s : State) : Out := whenLive s enterAckVerify

/-- ENTER.DataLow (R194). -/
def execEnterDataLow (s : State) : Out := whenLive s enterDataLow

/-- ENTER.DataHigh (R195). -/
def execEnterDataHigh (s : State) : Out := whenLive s enterDataHigh

/-- ACK.SAMPLE (R196). -/
def execAckSample (s : State) : Out := whenLive s fun s => .next (sampleAck s)

end Sys2Proof.Machine
end

