-- ==== Sys2Proof/Machine/FsmTransition.lean ====
section
/-!
DEFINITION. The timeout transitions of the fifteen states and the resend policy (43_fsm_transition.md).
-/
namespace Sys2Proof.Machine

/-! ## The transitions -/

/-- `LEN <- 0; RESENDS <- 0; enter(Idle); EVT.POST flag`: the end of a transfer (R224). -/
def finishTransfer (flag : Flag) (s : State) : Out :=
  andThen (enter .idle (clearTransfer s)) fun s => .next (orPending (flagWord s.params flag) s)

/-- TIMEOUT.Idle: no operation (R212). -/
def timeoutIdle (s : State) : Out := .next s

/-- TIMEOUT.FreeTime (R213). -/
def timeoutFreeTime (s : State) : Out := enter .startLow s

/-- TIMEOUT.StartLow (R214). -/
def timeoutStartLow (s : State) : Out := enter .startHigh s

/-- TIMEOUT.StartHigh (R215). -/
def timeoutStartHigh (s : State) : Out := enter .headerInitLow s

/-- TIMEOUT.HeaderInitLow (R216). -/
def timeoutHeaderInitLow (s : State) : Out := enter .headerInitHigh s

/-- TIMEOUT.HeaderInitHigh (R217). -/
def timeoutHeaderInitHigh (s : State) : Out :=
  andThen (advanceCursor s) fun s => if s.bit = 4 then enter .headerDestLow s else enter .headerInitLow s

/-- TIMEOUT.HeaderDestLow (R218). -/
def timeoutHeaderDestLow (s : State) : Out := enter .headerDestHigh s

/-- TIMEOUT.HeaderDestHigh (R219). -/
def timeoutHeaderDestHigh (s : State) : Out :=
  andThen (advanceCursor s) fun s => if s.byte = 1 then enter .eomLow s else enter .headerDestLow s

/-- TIMEOUT.EomLow (R220). -/
def timeoutEomLow (s : State) : Out := enter .eomHigh s

/-- TIMEOUT.EomHigh (R221). -/
def timeoutEomHigh (s : State) : Out := enter .ackLow s

/-- TIMEOUT.AckLow (R222). -/
def timeoutAckLow (s : State) : Out := enter .ackHigh s

/-- TIMEOUT.AckHigh (R223). -/
def timeoutAckHigh (s : State) : Out := enter .ackVerify s

/-- TIMEOUT.AckVerify: the resend policy (R224). -/
def timeoutAckVerify (s : State) : Out :=
  if s.ack then
    if curEom s then finishTransfer .sendOk s else enter .dataLow s
  else if s.resends.val < Config.maxResends then
    enter .freeTime (resetCursor (setResends (s.resends + 1) s))
  else finishTransfer .sendFailed s

/-- TIMEOUT.DataLow (R225). -/
def timeoutDataLow (s : State) : Out := enter .dataHigh s

/-- TIMEOUT.DataHigh (R226). -/
def timeoutDataHigh (s : State) : Out :=
  andThen (advanceCursor s) fun s => if s.bit = 0 then enter .eomLow s else enter .dataLow s

/-- The transition of a state (R211). -/
def timeout (f : Fsm) (s : State) : Out :=
  match f with
  | .idle => timeoutIdle s
  | .freeTime => timeoutFreeTime s
  | .startLow => timeoutStartLow s
  | .startHigh => timeoutStartHigh s
  | .headerInitLow => timeoutHeaderInitLow s
  | .headerInitHigh => timeoutHeaderInitHigh s
  | .headerDestLow => timeoutHeaderDestLow s
  | .headerDestHigh => timeoutHeaderDestHigh s
  | .eomLow => timeoutEomLow s
  | .eomHigh => timeoutEomHigh s
  | .ackLow => timeoutAckLow s
  | .ackHigh => timeoutAckHigh s
  | .ackVerify => timeoutAckVerify s
  | .dataLow => timeoutDataLow s
  | .dataHigh => timeoutDataHigh s

/-- An expiry: the timer is spent first, then the transition of the current state runs in the same step; a `STATE` that
is no state raises the fault (R211, R227; 44_timer_adapter.md R253; log 10). -/
def expire (s : State) : Out :=
  let s := stopTimer s
  match s.state with
  | .named f => timeout f s
  | .reserved => .next (raiseIllegalState s)

/-! ## The operations -/

/-- TIMEOUT.Idle (R212). -/
def execTimeoutIdle (s : State) : Out := whenLive s timeoutIdle

/-- TIMEOUT.FreeTime (R213). -/
def execTimeoutFreeTime (s : State) : Out := whenLive s timeoutFreeTime

/-- TIMEOUT.StartLow (R214). -/
def execTimeoutStartLow (s : State) : Out := whenLive s timeoutStartLow

/-- TIMEOUT.StartHigh (R215). -/
def execTimeoutStartHigh (s : State) : Out := whenLive s timeoutStartHigh

/-- TIMEOUT.HeaderInitLow (R216). -/
def execTimeoutHeaderInitLow (s : State) : Out := whenLive s timeoutHeaderInitLow

/-- TIMEOUT.HeaderInitHigh (R217). -/
def execTimeoutHeaderInitHigh (s : State) : Out := whenLive s timeoutHeaderInitHigh

/-- TIMEOUT.HeaderDestLow (R218). -/
def execTimeoutHeaderDestLow (s : State) : Out := whenLive s timeoutHeaderDestLow

/-- TIMEOUT.HeaderDestHigh (R219). -/
def execTimeoutHeaderDestHigh (s : State) : Out := whenLive s timeoutHeaderDestHigh

/-- TIMEOUT.EomLow (R220). -/
def execTimeoutEomLow (s : State) : Out := whenLive s timeoutEomLow

/-- TIMEOUT.EomHigh (R221). -/
def execTimeoutEomHigh (s : State) : Out := whenLive s timeoutEomHigh

/-- TIMEOUT.AckLow (R222). -/
def execTimeoutAckLow (s : State) : Out := whenLive s timeoutAckLow

/-- TIMEOUT.AckHigh (R223). -/
def execTimeoutAckHigh (s : State) : Out := whenLive s timeoutAckHigh

/-- TIMEOUT.AckVerify (R224). -/
def execTimeoutAckVerify (s : State) : Out := whenLive s timeoutAckVerify

/-- TIMEOUT.DataLow (R225). -/
def execTimeoutDataLow (s : State) : Out := whenLive s timeoutDataLow

/-- TIMEOUT.DataHigh (R226). -/
def execTimeoutDataHigh (s : State) : Out := whenLive s timeoutDataHigh

end Sys2Proof.Machine
end

