-- ==== Sys2Proof/Machine/Notifier.lean ====
section
/-!
DEFINITION. The result notifier (45_result_notifier.md).
-/
namespace Sys2Proof.Machine

/-- EVT.POST flag (R281). -/
def execEvtPost (flag : Flag) (s : State) : Out := whenLive s fun s => .next (orPending (flagWord s.params flag) s)

/-- POLL: read and clear the flag word in one step (R282). -/
def execPoll (s : State) : Out := whenLive s fun s => returning (.word s.pending) (clearPending s)

end Sys2Proof.Machine
end

