-- ==== Sys2Proof/Machine/Reset.lean ====
section
/-!
DEFINITION. Reset (70_reset_and_hazards.md).
-/
namespace Sys2Proof.Machine

/-- RESET: may be issued in any state, a faulted one too (R350). -/
def execReset (s : State) : Out := returning .nothing (resetRegisters s)

end Sys2Proof.Machine
end

