-- ==== Sys2Proof/Machine/TimerAdapter.lean ====
section
/-!
DEFINITION. The one-shot timer, the start trigger, the admission of messages, the clock basis and the line (44_timer_adapter.md).
-/
namespace Sys2Proof.Machine

/-- TMR.ARM n (R251). -/
def execTmrArm (n : Nat) (s : State) : Out := whenLive s (armTimer n)

/-- TMR.STOP (R252). -/
def execTmrStop (s : State) : Out := whenLive s fun s => .next (stopTimer s)

/-- TICK: an armed timer counts down, and expires at the tick that finds a count of 1 or less (R253). -/
def execTick (s : State) : Out :=
  whenLive s fun s =>
    if s.tmrArmed then
      if s.tmrCnt ≤ 1 then expire s else .next (countDown s)
    else .next s

/-- START: enabled when `TRIG = 1`; it disarms the trigger first and starts the transfer only from Idle with a
message (R255). A `STATE` that is no state raises the fault (43_fsm_transition.md R227; log 10). -/
def execStart (s : State) : Out :=
  whenLive s fun s =>
    if s.trig then
      let s := setTrig false s
      match s.state with
      | .reserved => .next (raiseIllegalState s)
      | .named f => if f = .idle ∧ s.len ≠ 0 then enter .freeTime (resetCursor (setResends 0 s)) else .next s
    else .refused .startNotEnabled

/-- SEND len, b[0..len-1]: not initialised is refused, then busy, then an invalid length, else the copy (R256). -/
def execSend (bytes : List Byte) (s : State) : Out :=
  whenLive s fun s =>
    if !s.inited then .refused .notInitialised
    else if inProgress s then returning (.send .busy) s
    else if bytes.length < 1 ∨ Config.maxMsgLen < bytes.length then returning (.send .invalid) s
    else returning (.send .accepted) (loadMessage bytes s)

/-- INIT B: refused during a transfer and for a basis that is not admitted (R257). -/
def execInit (basis : Nat) (s : State) : Out :=
  whenLive s fun s =>
    if inProgress s then .refused .initDuringTransfer
    else if admitted s.params s.rom basis then .next (setBasis basis s)
    else .refused .basisNotAdmitted

/-- LINE.SET v (R259). -/
def execLineSet (v : Bit) (s : State) : Out := whenLive s fun s => .next (setLine v s)

/-- LINE.GET (R261). -/
def execLineGet (s : State) : Out := whenLive s fun s => returning (.bit (lineGet s).1) (lineGet s).2

end Sys2Proof.Machine
end

