-- ==== Sys2Proof/Machine/Timing.lean ====
section
/-!
DEFINITION. The timing table's operations (40_timing_table.md): each returns a value and writes no register.
-/
namespace Sys2Proof.Machine

/-- ROM.READ a: an address above 9 is refused (R131). -/
def execRomRead (a : BitVec 4) (s : State) : Out :=
  whenLive s fun s =>
    match romRead a s with
    | some us => returning (.micros us) s
    | none => .refused .romAddress

/-- TICKS us (R132). -/
def execTicks (us : Micros) (s : State) : Out := whenLive s fun s => returning (.ticks (ticks us s)) s

/-- T_START_LOW (R133). -/
def execTStartLow (s : State) : Out := whenLive s fun s => returning (.ticks (tStartLow s)) s

/-- T_START_HIGH (R134). -/
def execTStartHigh (s : State) : Out := whenLive s fun s => returning (.ticks (tStartHigh s)) s

/-- T_ZERO_LOW (R135). -/
def execTZeroLow (s : State) : Out := whenLive s fun s => returning (.ticks (tZeroLow s)) s

/-- T_ZERO_HIGH (R136). -/
def execTZeroHigh (s : State) : Out := whenLive s fun s => returning (.ticks (tZeroHigh s)) s

/-- T_ONE_LOW (R137). -/
def execTOneLow (s : State) : Out := whenLive s fun s => returning (.ticks (tOneLow s)) s

/-- T_ONE_HIGH (R138). -/
def execTOneHigh (s : State) : Out := whenLive s fun s => returning (.ticks (tOneHigh s)) s

/-- T_FREE_NI (R139). -/
def execTFreeNi (s : State) : Out := whenLive s fun s => returning (.ticks (tFreeNi s)) s

/-- T_FREE_RS (R140). -/
def execTFreeRs (s : State) : Out := whenLive s fun s => returning (.ticks (tFreeRs s)) s

/-- T_BIT_PERIOD (R141). -/
def execTBitPeriod (s : State) : Out := whenLive s fun s => returning (.ticks (tBitPeriod s)) s

/-- T_SAMPLE (R142). -/
def execTSample (s : State) : Out := whenLive s fun s => returning (.ticks (tSample s)) s

/-- LOW_TICKS bit (R143). -/
def execLowTicks (bit : Bit) (s : State) : Out := whenLive s fun s => returning (.ticks (lowTicks bit s)) s

/-- HIGH_TICKS bit (R144). -/
def execHighTicks (bit : Bit) (s : State) : Out := whenLive s fun s => returning (.ticks (highTicks bit s)) s

/-- ACK_HIGH_TICKS (R145). -/
def execAckHighTicks (s : State) : Out := whenLive s fun s => returning (.ticks (ackHighTicks s)) s

/-- ACK_VERIFY_TICKS (R146). -/
def execAckVerifyTicks (s : State) : Out := whenLive s fun s => returning (.ticks (ackVerifyTicks s)) s

end Sys2Proof.Machine
end

