-- ==== Sys2Proof/Machine/Dispatch.lean ====
section
/-!
DEFINITION. The dispatch: one arm for each operation of spec/opcode_table.json, in the table's order.
-/
namespace Sys2Proof.Machine

def exec (i : Instr) (s : State) : Host.Outcome State Fault Refusal :=
  match i with
  | .reset => Sys2Proof.Machine.execReset s
  | .init basis => Sys2Proof.Machine.execInit basis s
  | .send bytes => Sys2Proof.Machine.execSend bytes s
  | .poll => Sys2Proof.Machine.execPoll s
  | .start => Sys2Proof.Machine.execStart s
  | .tick => Sys2Proof.Machine.execTick s
  | .timeoutIdle => Sys2Proof.Machine.execTimeoutIdle s
  | .timeoutFreeTime => Sys2Proof.Machine.execTimeoutFreeTime s
  | .timeoutStartLow => Sys2Proof.Machine.execTimeoutStartLow s
  | .timeoutStartHigh => Sys2Proof.Machine.execTimeoutStartHigh s
  | .timeoutHeaderInitLow => Sys2Proof.Machine.execTimeoutHeaderInitLow s
  | .timeoutHeaderInitHigh => Sys2Proof.Machine.execTimeoutHeaderInitHigh s
  | .timeoutHeaderDestLow => Sys2Proof.Machine.execTimeoutHeaderDestLow s
  | .timeoutHeaderDestHigh => Sys2Proof.Machine.execTimeoutHeaderDestHigh s
  | .timeoutEomLow => Sys2Proof.Machine.execTimeoutEomLow s
  | .timeoutEomHigh => Sys2Proof.Machine.execTimeoutEomHigh s
  | .timeoutAckLow => Sys2Proof.Machine.execTimeoutAckLow s
  | .timeoutAckHigh => Sys2Proof.Machine.execTimeoutAckHigh s
  | .timeoutAckVerify => Sys2Proof.Machine.execTimeoutAckVerify s
  | .timeoutDataLow => Sys2Proof.Machine.execTimeoutDataLow s
  | .timeoutDataHigh => Sys2Proof.Machine.execTimeoutDataHigh s
  | .enterIdle => Sys2Proof.Machine.execEnterIdle s
  | .enterFreeTime => Sys2Proof.Machine.execEnterFreeTime s
  | .enterStartLow => Sys2Proof.Machine.execEnterStartLow s
  | .enterStartHigh => Sys2Proof.Machine.execEnterStartHigh s
  | .enterHeaderInitLow => Sys2Proof.Machine.execEnterHeaderInitLow s
  | .enterHeaderInitHigh => Sys2Proof.Machine.execEnterHeaderInitHigh s
  | .enterHeaderDestLow => Sys2Proof.Machine.execEnterHeaderDestLow s
  | .enterHeaderDestHigh => Sys2Proof.Machine.execEnterHeaderDestHigh s
  | .enterEomLow => Sys2Proof.Machine.execEnterEomLow s
  | .enterEomHigh => Sys2Proof.Machine.execEnterEomHigh s
  | .enterAckLow => Sys2Proof.Machine.execEnterAckLow s
  | .enterAckHigh => Sys2Proof.Machine.execEnterAckHigh s
  | .enterAckVerify => Sys2Proof.Machine.execEnterAckVerify s
  | .enterDataLow => Sys2Proof.Machine.execEnterDataLow s
  | .enterDataHigh => Sys2Proof.Machine.execEnterDataHigh s
  | .tStartLow => Sys2Proof.Machine.execTStartLow s
  | .tStartHigh => Sys2Proof.Machine.execTStartHigh s
  | .tZeroLow => Sys2Proof.Machine.execTZeroLow s
  | .tZeroHigh => Sys2Proof.Machine.execTZeroHigh s
  | .tOneLow => Sys2Proof.Machine.execTOneLow s
  | .tOneHigh => Sys2Proof.Machine.execTOneHigh s
  | .tFreeNi => Sys2Proof.Machine.execTFreeNi s
  | .tFreeRs => Sys2Proof.Machine.execTFreeRs s
  | .tBitPeriod => Sys2Proof.Machine.execTBitPeriod s
  | .tSample => Sys2Proof.Machine.execTSample s
  | .ticks us => Sys2Proof.Machine.execTicks us s
  | .lowTicks bit => Sys2Proof.Machine.execLowTicks bit s
  | .highTicks bit => Sys2Proof.Machine.execHighTicks bit s
  | .ackHighTicks => Sys2Proof.Machine.execAckHighTicks s
  | .ackVerifyTicks => Sys2Proof.Machine.execAckVerifyTicks s
  | .curReset => Sys2Proof.Machine.execCurReset s
  | .curBit => Sys2Proof.Machine.execCurBit s
  | .curAdv => Sys2Proof.Machine.execCurAdv s
  | .curEom => Sys2Proof.Machine.execCurEom s
  | .tmrArm n => Sys2Proof.Machine.execTmrArm n s
  | .tmrStop => Sys2Proof.Machine.execTmrStop s
  | .lineSet v => Sys2Proof.Machine.execLineSet v s
  | .lineGet => Sys2Proof.Machine.execLineGet s
  | .ackSample => Sys2Proof.Machine.execAckSample s
  | .evtPost flag => Sys2Proof.Machine.execEvtPost flag s
  | .romRead a => Sys2Proof.Machine.execRomRead a s

end Sys2Proof.Machine
end

