-- ==== Sys2Proof/Machine/Fetch.lean ====
section
/-!
DEFINITION. Which operation a step takes (20_memory.md R67, 44_timer_adapter.md R262; log 1, log 3).
-/
namespace Sys2Proof.Machine

/-- Put the bytes of an operation in front of the pending inputs. -/
def pushInput (bytes : List Byte) (s : State) : State := { s with inputs := bytes ++ s.inputs }

/-- The hardware's own next event when nothing is pending from outside: an enabled START is taken when the draw says
so, else the counting clock ticks (44_timer_adapter.md R255, R262; log 3). -/
def hardwareEvent (s : State) : Instr × State :=
  if s.trig then
    (if Config.startTaken s.draws then .start else .tick, { s with draws := s.draws + 1 })
  else (.tick, s)

/-- The operation the next step takes, and the state with it taken: the first of the pending inputs, or a hardware
event when there is none. Bytes that are no operation are refused by name (log 2). -/
def nextOperation (s : State) : Except Refusal (Instr × State) :=
  match s.inputs with
  | [] => .ok (hardwareEvent s)
  | b :: bs =>
    match decode (b :: bs) with
    | .ok (i, rest) => .ok (i, { s with inputs := rest })
    | .error e => .error (.undecodable e)

end Sys2Proof.Machine
end

