-- ==== Sys2Proof/Machine/Step.lean ====
section
/-!
DEFINITION. One step: the next operation of the environment's inputs, or, when none is pending, one of the block's own
hardware events (44_timer_adapter.md R262; log 1).
-/
namespace Sys2Proof.Machine

/-- One step of the block. -/
def step (s : State) : Host.Outcome State Fault Refusal :=
  match nextOperation s with
  | .ok (i, s') => exec i s'
  | .error r => .refused r

/-- `s` with an instruction whose `nbits` bits are `w` put in front of the pending inputs, where the next step takes
its operation. -/
def State.withFetchWord (s : State) (nbits w : Nat) : State := pushInput (tableInstrBytes nbits w) s

end Sys2Proof.Machine
end

