-- ==== Sys2Proof/Safety.lean ====
section
/-!
DEFINITION. What counts as a sound state (10_state.md R40), the end of a run (70_reset_and_hazards.md R363), the six
operations a run is made of and the fair runs (44_timer_adapter.md R262), and how many timeouts a transfer still has
before it (43_fsm_transition.md R228).
-/
namespace Sys2Proof.Machine

/-! ## The invariants between handlers (10_state.md R40) -/

/-- `STATE` holds the state `f`. -/
abbrev InState (f : Fsm) (s : State) : Prop := s.state = .named f

/-- `STATE` holds one of the fifteen states and no fault is recorded (R38). -/
abbrev StateIsNamed (s : State) : Prop := s.state ≠ .reserved ∧ s.faulted = false

/-- Item 1: outside Idle there is a message. -/
abbrev BusyHasMessage (s : State) : Prop := ¬ InState .idle s → 1 ≤ s.len.val

/-- Item 2: in Idle the cursor, the timer, the line and the resend counter are at rest. -/
abbrev IdleAtRest (s : State) : Prop :=
  InState .idle s → s.byte = 0 ∧ s.bit = 0 ∧ s.tmrArmed = false ∧ s.lineOut = true ∧ s.resends = 0

/-- Item 3: a message in Idle waits for its START. -/
abbrev IdleMessageIsTriggered (s : State) : Prop := InState .idle s → 1 ≤ s.len.val → s.trig = true

/-- Item 4: the trigger is set only in Idle with a message. -/
abbrev TriggerMeansWaiting (s : State) : Prop := s.trig = true → InState .idle s ∧ 1 ≤ s.len.val

/-- The parameters meet their constraint, and the registers whose width is one of them fit it; `PENDING` holds result
flags and nothing else (R28, R32, R34, 92_eei_decisions.md D3). -/
abbrev WidthsHold (s : State) : Prop :=
  s.params.admissible = true ∧ s.clkBasis < 2 ^ s.params.basisW ∧ s.tmrCnt < 2 ^ s.params.timerW ∧
    s.pending ||| flagMask s.params = flagMask s.params

/-- Item 5: the cursor does not pass the message, and the widths hold; `LEN` up to 16, `BIT` up to 7 and `RESENDS` up to
5 are their types. -/
abbrev RegistersInRange (s : State) : Prop := s.byte.val ≤ s.len.val ∧ WidthsHold s

/-- Item 6, with the cursor {0,0} before the first header cell (43_fsm_transition.md R215): where the cursor stands in
each state. -/
abbrev CursorInPlace (s : State) : Prop :=
  (InState .freeTime s ∨ InState .startLow s ∨ InState .startHigh s → s.byte = 0 ∧ s.bit = 0) ∧
  (InState .headerInitLow s ∨ InState .headerInitHigh s → s.byte = 0 ∧ s.bit.toNat ≤ 3) ∧
  (InState .headerDestLow s ∨ InState .headerDestHigh s → s.byte = 0 ∧ 4 ≤ s.bit.toNat) ∧
  (InState .dataLow s ∨ InState .dataHigh s → 1 ≤ s.byte.val ∧ s.byte.val < s.len.val) ∧
  (InState .eomLow s ∨ InState .eomHigh s ∨ InState .ackLow s ∨ InState .ackHigh s ∨ InState .ackVerify s →
    s.bit = 0 ∧ 1 ≤ s.byte.val ∧ s.byte.val ≤ s.len.val)

/-- Item 7: the line is driven low exactly in the six low states. -/
abbrev LineFollowsState (s : State) : Prop :=
  s.lineOut = false ↔
    InState .startLow s ∨ InState .headerInitLow s ∨ InState .headerDestLow s ∨ InState .dataLow s ∨
      InState .eomLow s ∨ InState .ackLow s

/-- Item 8: a message means an initialised basis. -/
abbrev MessageMeansInit (s : State) : Prop := 1 ≤ s.len.val → s.inited = true

/-- The timer is armed exactly outside Idle (R31). -/
abbrev TimerFollowsState (s : State) : Prop := s.tmrArmed = true ↔ ¬ InState .idle s

/-- `INITED` records that `CLKBASIS` holds an admitted value (R29). -/
abbrev BasisIsAdmitted (s : State) : Prop := s.inited = true → admitted s.params s.rom s.clkBasis = true

/-- A sound state: all of R40, with R29, R31 and the cursor before the first header cell. -/
abbrev Sound (s : State) : Prop :=
  StateIsNamed s ∧ BusyHasMessage s ∧ IdleAtRest s ∧ IdleMessageIsTriggered s ∧ TriggerMeansWaiting s ∧
    RegistersInRange s ∧ CursorInPlace s ∧ LineFollowsState s ∧ MessageMeansInit s ∧ TimerFollowsState s ∧
    BasisIsAdmitted s

/-! ## Runs -/

/-- The six operations a run of the block is made of (44_timer_adapter.md R262); the others are the parts they are
built of (log 16). -/
def isEvent : Instr → Bool
  | .reset => true
  | .init _ => true
  | .send _ => true
  | .poll => true
  | .start => true
  | .tick => true
  | _ => false

/-- `n` ticks of the counting clock, one after another. -/
def runTicks : Nat → State → Out
  | 0, s => .next s
  | n + 1, s => andThen (exec .tick s) (runTicks n)

/-- A fair run: an interleaving without end of the six operations, each completing, in which ticks keep coming and an
enabled START is eventually taken (44_timer_adapter.md R262). A RESET that clears the trigger ends the wait too. -/
structure FairRun (ops : Nat → Instr) (run : Nat → State) : Prop where
  events : ∀ n, isEvent (ops n) = true
  steps : ∀ n, exec (ops n) (run n) = .next (run (n + 1))
  ticks : ∀ n, ∃ m, n ≤ m ∧ ops m = .tick
  starts : ∀ n, (run n).trig = true → ∃ m, n ≤ m ∧ (ops m = .start ∨ (run m).trig = false)

/-- The end of a run (70_reset_and_hazards.md R363). -/
abbrev RunIsOver (s : State) : Prop :=
  InState .idle s ∧ s.len = 0 ∧ s.trig = false ∧ s.tmrArmed = false ∧ s.faulted = false ∧ s.inputs = []

/-! ## How much of a transfer is left (43_fsm_transition.md R228) -/

/-- Timeouts of one acknowledged frame of a message of `len` bytes, from FreeTime to Idle: 1 of free time, 2 of the
start bit and 21 a block (R228 (a)). -/
def frameTimeouts (len : Nat) : Nat := 3 + 21 * len

/-- Timeouts until the current frame is over, if every block still to be sampled is acknowledged. -/
def frameLeft (s : State) : Nat :=
  let blocks := 21 * (s.len.val - s.byte.val)
  let cells := 2 * (8 - s.bit.toNat) + 5
  match s.state with
  | .named .idle => 0
  | .named .freeTime => frameTimeouts s.len.val
  | .named .startLow => 2 + 21 * s.len.val
  | .named .startHigh => 1 + 21 * s.len.val
  | .named .headerInitLow => cells + (blocks - 21)
  | .named .headerInitHigh => cells - 1 + (blocks - 21)
  | .named .headerDestLow => cells + (blocks - 21)
  | .named .headerDestHigh => cells - 1 + (blocks - 21)
  | .named .dataLow => cells + (blocks - 21)
  | .named .dataHigh => cells - 1 + (blocks - 21)
  | .named .eomLow => 5 + blocks
  | .named .eomHigh => 4 + blocks
  | .named .ackLow => 3 + blocks
  | .named .ackHigh => 2 + blocks
  | .named .ackVerify => 1 + blocks
  | .reserved => 0

/-- A bound on the timeouts until the transfer is over: the rest of this frame and a whole frame for each resend still
allowed. -/
def timeoutsLeft (s : State) : Nat :=
  if s.state = .named .idle then 0
  else frameLeft s + (5 - s.resends.val) * frameTimeouts s.len.val

/-- The sampled level that acknowledges the message: low for a direct one, high for a broadcast (42_fsm_entry.md
R196). -/
def ackLevel (s : State) : Bit := decide (destNibble s = Config.broadcast)

end Sys2Proof.Machine
end

