-- ==== Sys2Proof/Certificates/Slice0/Obligations.lean ====
section
/-!
DEFINITION. The statements for the provers. Each gives the whole next state, as an update of the state before: what it
does not name is unchanged (its frame). The numbers and formulas are the spec's.
-/
namespace Sys2Proof.Spec

open Sys2Proof.Machine

/-! ## The spec's words the statements share -/

/-- A count the timer of `s` takes as it is: `1 <= n < 2^TIMER_W` (44_timer_adapter.md R251). -/
abbrev TimerTakes (s : State) (n : Nat) : Prop := 1 ≤ n ∧ n < 2 ^ s.params.timerW

/-- The duration of ROM entry `a`: `floor(ROM[a] * B / 10000)` (40_timing_table.md R132 to R142). -/
def duration (a : Fin 10) (s : State) : Nat := s.rom[a].toNat * s.clkBasis / 10000

/-- `LOW_TICKS v` (40_timing_table.md R143). -/
def lowFor (v : Bit) (s : State) : Nat := if v then duration 4 s else duration 2 s

/-- `HIGH_TICKS v` (40_timing_table.md R144). -/
def highFor (v : Bit) (s : State) : Nat := if v then duration 5 s else duration 3 s

/-- `s` with the line at a level, the timer armed with a count, and nothing returned. -/
def driven (level : Bit) (n : Nat) (s : State) : State :=
  { s with lineOut := level, tmrArmed := true, tmrCnt := n, ret := .nothing }

/-- `s` with `STATE` at `f`. -/
def goto (f : Fsm) (s : State) : State := { s with state := .named f }

/-- `s` with the cursor moved one bit on (41_cursor.md R163), and nothing returned. -/
def advanced (s : State) : State :=
  if s.bit = 7 then { s with byte := s.byte + 1, bit := 0, ret := .nothing }
  else { s with bit := s.bit + 1, ret := .nothing }

/-- The cursor can move: at the end of a byte `BYTE + 1` is at most 16 (93_implementation_defined.md U19). -/
abbrev CanAdvance (s : State) : Prop := s.bit = 7 → s.byte.val < 16

/-- The value of `ACK` after a sample at which the followers' level is `f` (42_fsm_entry.md R196,
44_timer_adapter.md R260). -/
def ackFor (f : Bit) (s : State) : Bit :=
  if s.msg[0].extractLsb' 0 4 = 15 then s.lineOut && f else !(s.lineOut && f)

/-- `EOM`, the value of the end-of-message bit (41_cursor.md R164). -/
def eomFor (s : State) : Bit := decide (s.bit = 0 ∧ s.byte = s.len)

/-- The duration with which the entry of `f` arms the timer (42_fsm_entry.md R182 to R195); Idle arms nothing. The two
differences are the model's functions, which AckDurationsSubtractTicks states. -/
def entryDuration (f : Fsm) (s : State) : Nat :=
  match f with
  | .idle => 0
  | .freeTime => if s.resends = 0 then duration 6 s else duration 7 s
  | .startLow => duration 0 s
  | .startHigh => duration 1 s
  | .headerInitLow | .headerDestLow | .dataLow => lowFor (curBit s) s
  | .headerInitHigh | .headerDestHigh | .dataHigh => highFor (curBit s) s
  | .eomLow => lowFor (eomFor s) s
  | .eomHigh => highFor (eomFor s) s
  | .ackLow => duration 4 s
  | .ackHigh => ackHighTicks s
  | .ackVerify => ackVerifyTicks s

/-- What the entry of `f` writes beside the timer when the followers' level is `l`: the line, the cursor of StartLow, the
sample of AckVerify (42_fsm_entry.md R182 to R196). -/
def onEntry (f : Fsm) (l : Bit) (s : State) : State :=
  match f with
  | .idle => s
  | .startLow => { s with lineOut := false, byte := 0, bit := 0 }
  | .headerInitLow | .headerDestLow | .dataLow | .eomLow | .ackLow => { s with lineOut := false }
  | .freeTime | .startHigh | .headerInitHigh | .headerDestHigh | .dataHigh | .eomHigh | .ackHigh =>
    { s with lineOut := true }
  | .ackVerify =>
    { s with
      ack := ackFor l s, followers := s.followers.tail, draws := if s.followers = [] then s.draws + 1 else s.draws }

/-- The state that the transition of `f` enters and the registers as that entry finds them (43_fsm_transition.md R213 to
R226); none where it arms no timer or the cursor cannot move. -/
def reached (f : Fsm) (s : State) : Option (Fsm × State) :=
  match f with
  | .idle => none
  | .freeTime => some (.startLow, s)
  | .startLow => some (.startHigh, s)
  | .startHigh => some (.headerInitLow, s)
  | .headerInitLow => some (.headerInitHigh, s)
  | .headerInitHigh =>
    if CanAdvance s then some (if (advanced s).bit = 4 then .headerDestLow else .headerInitLow, advanced s) else none
  | .headerDestLow => some (.headerDestHigh, s)
  | .headerDestHigh =>
    if CanAdvance s then some (if (advanced s).byte = 1 then .eomLow else .headerDestLow, advanced s) else none
  | .eomLow => some (.eomHigh, s)
  | .eomHigh => some (.ackLow, s)
  | .ackLow => some (.ackHigh, s)
  | .ackHigh => some (.ackVerify, s)
  | .ackVerify =>
    if s.ack then if eomFor s then none else some (.dataLow, s)
    else if s.resends.val < 5 then some (.freeTime, { s with resends := s.resends + 1, byte := 0, bit := 0 })
    else none
  | .dataLow => some (.dataHigh, s)
  | .dataHigh =>
    if CanAdvance s then some (if (advanced s).bit = 0 then .eomLow else .dataLow, advanced s) else none

/-- `t` is what the entry of `f` leaves of `s`: the timer armed with the duration where its width holds it, else with
some count of its width (44_timer_adapter.md R251; log 12), and beside it nothing but what the entry writes. -/
def LeftByEntry (f : Fsm) (s t : State) : Prop :=
  ∃ (c : Nat) (l : Bit), c < 2 ^ s.params.timerW ∧
    (entryDuration f s < 2 ^ s.params.timerW → c = entryDuration f s) ∧
    (∀ (g : Bit) (gs : List Bit), s.followers = g :: gs → l = g) ∧
    t = { onEntry f l s with tmrArmed := true, tmrCnt := c, ret := .nothing }

end Sys2Proof.Spec

open Sys2Proof Sys2Proof.Machine Sys2Proof.Spec

/-! ## Encoding -/

/-- Decoding the bytes of a well-formed operation gives it back, with the bytes after it, for every operation and every
operand. The byte form is the model's (log 2). -/
def Obligations.DecodeOfEncodeIsIdentity : Prop :=
  ∀ (i : Instr) (rest : List Byte), i.wellFormed = true → decode (encode i ++ rest) = .ok (i, rest)

/-- What the decoder reads is the encoding of a well-formed operation: no two byte forms give one operation, and no
reserved byte is read. The byte form is the model's (log 2). -/
def Obligations.EncodeOfDecodeIsIdentity : Prop :=
  ∀ (bs rest : List Byte) (i : Instr), decode bs = .ok (i, rest) → bs = encode i ++ rest ∧ i.wellFormed = true

/-- Words written out from the keys of 30_encoding.md R104, one for each format, decode to the operations they stand
for. The format tags and operand bytes are the model's (log 2). -/
def Obligations.KeysOfTheTableDecode : Prop :=
  decodeTableWord 8 0b000 = some .reset ∧
  decodeTableWord 40 0x0000271001 = some (.init 10000) ∧
  decodeTableWord 32 0x01400202 = some (.send [0x40, 0x01]) ∧
  decodeTableWord 8 0b101 = some .tick ∧
  decodeTableWord 8 0b1101100 = some .timeoutAckVerify ∧
  decodeTableWord 8 0b1110001 = some .enterFreeTime ∧
  decodeTableWord 8 0x14 = some .tOneLow ∧
  decodeTableWord 16 0x092f = some (.romRead 9) ∧
  decodeTableWord 8 0b1101111 = none

/-! ## Steps -/

/-- A step runs the operation its inputs decode to, with its bytes taken; inputs that are no operation are refused by
name, with the decoder's reason. That the operations to come are a list of bytes is the model's choice (log 1, log 2). -/
def Obligations.StepRunsTheDecodedOperation : Prop :=
  ∀ s : State,
    (∀ (i : Instr) (rest : List Byte), decode s.inputs = .ok (i, rest) → step s = exec i { s with inputs := rest }) ∧
    (∀ e : DecodeError, s.inputs ≠ [] → decode s.inputs = .error e → step s = .refused (.undecodable e))

/-- An instruction put where the step takes its operation is the one the next step runs, in the state it was put into.
The byte form is the model's (log 2). -/
def Obligations.FetchedWordIsRun : Prop :=
  ∀ (s : State) (nbits w : Nat) (i : Instr), decodeTableWord nbits w = some i →
    step (s.withFetchWord nbits w) = exec i s

/-- With nothing pending from outside a step is a TICK, or the START an accepted SEND has enabled; which of the two is
the environment's choice. That the clock ticks when no operation is pending is the model's choice (log 1, log 3). -/
def Obligations.StepWithoutInputsIsHardware : Prop :=
  ∀ s : State, s.inputs = [] →
    (s.trig = false → step s = exec .tick s) ∧
    (s.trig = true → step s = exec .start { s with draws := s.draws + 1 } ∨
      step s = exec .tick { s with draws := s.draws + 1 })

/-! ## Reset -/

/-- The registers after reset (10_state.md R41). `CLKBASIS`, unspecified there, is left out. -/
def Obligations.ResetValuesOfTheRegisters : Prop :=
  State.reset.state = .named .idle ∧ State.reset.msg = Vector.replicate 16 0 ∧ State.reset.len = 0 ∧
  State.reset.byte = 0 ∧ State.reset.bit = 0 ∧ State.reset.resends = 0 ∧ State.reset.ack = false ∧
  State.reset.inited = false ∧ State.reset.lineOut = true ∧ State.reset.tmrArmed = false ∧
  State.reset.tmrCnt = 0 ∧ State.reset.trig = false ∧ State.reset.pending = 0 ∧ State.reset.faulted = false

/-- RESET completes in every state, a faulted one too, with every register at its reset value and `CLKBASIS` at some
value of its width; it keeps the parameters and the ROM (70_reset_and_hazards.md R350). That these and the environment's
inputs stay as they are is the model's choice (log 23), and that `CLKBASIS` is a free value is log 6. -/
def Obligations.ResetOperationRestoresReset : Prop :=
  ∀ s : State, ∃ b : Nat, b < 2 ^ s.params.basisW ∧ exec .reset s =
    .next { State.reset with
      params := s.params, clkBasis := b, rom := s.rom, inputs := s.inputs, followers := s.followers, draws := s.draws + 1 }

/-! ## The host's operations -/

/-- INIT sets the basis and `INITED` and nothing else; it is refused during a transfer and for a basis that is not
admitted (44_timer_adapter.md R257). -/
def Obligations.InitSetsTheAdmittedBasis : Prop :=
  ∀ (s : State) (b : Nat), s.faulted = false →
    (s.len = 0 → admitted s.params s.rom b = true →
      exec (.init b) s = .next { s with clkBasis := b, inited := true, ret := .nothing }) ∧
    (s.len ≠ 0 → exec (.init b) s = .refused .initDuringTransfer) ∧
    (s.len = 0 → admitted s.params s.rom b = false → exec (.init b) s = .refused .basisNotAdmitted)

/-- Which bases are admitted: clauses (a), (b) and (c) of 40_timing_table.md R147, over the ROM and the widths in use. That
a basis the register cannot hold is none is the model's reading (log 15). -/
def Obligations.AdmissionClauses : Prop :=
  ∀ (p : Params) (rom : Vector Micros 10) (b : Nat),
    let t : Fin 10 → Nat := fun a => rom[a].toNat * b / 10000
    admitted p rom b = true ↔
      b < 2 ^ p.basisW ∧
      ((∀ a : Fin 8, 1 ≤ t (a.castLE (by omega)) ∧ t (a.castLE (by omega)) < 2 ^ p.timerW) ∧
        t 4 < t 9 ∧ t 9 - t 4 < 2 ^ p.timerW ∧ t 9 < t 8 ∧ t 8 - t 9 < 2 ^ p.timerW) ∧
      (t 4 < t 2 ∧ t 3 < t 5) ∧ t 7 < t 6

/-- With the default ROM and widths the admitted bases are exactly 20 to 3579139413; the shape of clause (b) holds from 7
on and fails at 6; clause (c) holds from 1 on (40_timing_table.md R147). The default figures are the spec's general
knowledge (log 7). -/
def Obligations.AdmittedBasesOfTheDefaultRom : Prop :=
  ∀ b : Nat,
    let t : Fin 10 → Nat := fun a => Config.romDefault[a].toNat * b / 10000
    (admitted .defaults Config.romDefault b = true ↔ 20 ≤ b ∧ b ≤ 3579139413) ∧
    (7 ≤ b → t 4 < t 2 ∧ t 3 < t 5) ∧ (b = 6 → t 4 = 0 ∧ t 2 = 0) ∧ (1 ≤ b → t 7 < t 6)

/-- SEND: refused before INIT; `busy` with nothing written while a message is held, whatever the length; `invalid` with
nothing written for a length outside 1 to 16; else the copy of the bytes, the length and the trigger, the bytes past the
message kept (44_timer_adapter.md R256). -/
def Obligations.SendAdmitsCopiesAndTriggers : Prop :=
  ∀ (s : State) (bytes : List Byte), s.faulted = false →
    (s.inited = false → exec (.send bytes) s = .refused .notInitialised) ∧
    (s.inited = true → s.len ≠ 0 → exec (.send bytes) s = .next { s with ret := .send .busy }) ∧
    (s.inited = true → s.len = 0 → (bytes.length = 0 ∨ 16 < bytes.length) →
      exec (.send bytes) s = .next { s with ret := .send .invalid }) ∧
    (s.inited = true → s.len = 0 → 1 ≤ bytes.length → bytes.length ≤ 16 →
      ∃ m : Vector Byte 16,
        exec (.send bytes) s =
          .next { s with msg := m, len := Fin.ofNat 17 bytes.length, trig := true, ret := .send .accepted } ∧
        ∀ (j : Nat) (hj : j < 16), m[j] = if h : j < bytes.length then bytes[j] else s.msg[j])

/-- POLL returns the flag word and clears it in one step, in every state of the FSM, before or after INIT; `evt_avail`
is then low and the next POLL returns 0 (45_result_notifier.md R282). The premise is 10_state.md R38: while `FAULTED` is
set no step is enabled. -/
def Obligations.PollReturnsAndClears : Prop :=
  ∀ s : State, s.faulted = false →
    exec .poll s = .next { s with pending := 0, ret := .word s.pending } ∧
    evtAvail { s with pending := 0, ret := .word s.pending } = false ∧
    exec .poll { s with pending := 0, ret := .word s.pending } = .next { s with pending := 0, ret := .word 0 }

/-! ## The hardware's events -/

/-- START disarms the trigger and, from Idle with a message, starts a new transfer in FreeTime with the new-initiator
free time; otherwise it has only disarmed it; with no trigger it is not enabled (44_timer_adapter.md R255). That a
START that is not enabled is refused is log 11. -/
def Obligations.StartBeginsTheTransfer : Prop :=
  ∀ (s : State) (f : Fsm), s.faulted = false → s.state = .named f →
    (s.trig = true → f = .idle → s.len ≠ 0 → TimerTakes s (duration 6 s) →
      exec .start s = .next (driven true (duration 6 s)
        (goto .freeTime { s with trig := false, resends := 0, byte := 0, bit := 0 }))) ∧
    (s.trig = true → f ≠ .idle ∨ s.len = 0 → exec .start s = .next { s with trig := false, ret := .nothing }) ∧
    (s.trig = false → exec .start s = .refused .startNotEnabled)

/-- A TICK does nothing while the timer is disarmed and counts an armed timer down (44_timer_adapter.md R253). -/
def Obligations.TickCountsDown : Prop :=
  ∀ s : State, s.faulted = false →
    (s.tmrArmed = false → exec .tick s = .next { s with ret := .nothing }) ∧
    (s.tmrArmed = true → 2 ≤ s.tmrCnt →
      exec .tick s = .next { s with tmrCnt := s.tmrCnt - 1, ret := .nothing })

/-- An armed timer with the count `n` expires at the `n`-th TICK, and until then the ticks change only the count; so a
state lasts the ticks its entry armed (44_timer_adapter.md R253). -/
def Obligations.ArmedTimerExpiresAtItsLastTick : Prop :=
  ∀ (s : State) (f : Fsm), s.faulted = false → s.state = .named f → s.tmrArmed = true →
    (∀ n : Nat, 1 ≤ n → n < s.tmrCnt → runTicks n s = .next { s with tmrCnt := s.tmrCnt - n, ret := .nothing }) ∧
    (1 ≤ s.tmrCnt → runTicks s.tmrCnt s = exec (timeoutInstr f) { s with tmrArmed := false, tmrCnt := 0 })

/-- A TICK that finds a count of 1 or less disarms the timer and runs the transition of the current state in the same
step (44_timer_adapter.md R253, 43_fsm_transition.md R211). -/
def Obligations.ExpiryRunsTheTransitionOfTheState : Prop :=
  ∀ (s : State) (f : Fsm), s.faulted = false → s.state = .named f → s.tmrArmed = true → s.tmrCnt ≤ 1 →
    exec .tick s = exec (timeoutInstr f) { s with tmrArmed := false, tmrCnt := 0 }

/-- A timeout or a START that finds `STATE` with the code 15 raises the fault: `FAULTED` is set (43_fsm_transition.md
R227). That the raise is a next state with `FAULTED` set is the model's choice (log 9). Before it the expiry has spent the
timer and START has disarmed the trigger (44_timer_adapter.md R253, R255, 70_reset_and_hazards.md R355); that R227's "no
other write" is said of the raise and not of these is the model's reading (log 10). -/
def Obligations.ReservedStateFaults : Prop :=
  ∀ s : State, s.faulted = false → s.state = .reserved →
    (s.tmrArmed = true → s.tmrCnt ≤ 1 →
      exec .tick s = .next { s with tmrArmed := false, tmrCnt := 0, faulted := true, ret := .nothing }) ∧
    (s.trig = true → exec .start s = .next { s with trig := false, faulted := true, ret := .nothing })

/-- While `FAULTED` is set no operation but RESET is enabled (10_state.md R38); that an operation that is not enabled
ends in the fault IllegalState is log 9. -/
def Obligations.FaultedBlockStaysFaulted : Prop :=
  ∀ (i : Instr) (s : State), s.faulted = true → i ≠ .reset → exec i s = .fault .illegalState

/-! ## The timing table -/

/-- Each of the ten entries returns `floor(ROM[a] * B / 10000)` for its own address and writes no register
(40_timing_table.md R133 to R142). -/
def Obligations.TimingEntriesReturnTheirTicks : Prop :=
  ∀ s : State, s.faulted = false →
    exec .tStartLow s = .next { s with ret := .ticks (s.rom[0].toNat * s.clkBasis / 10000) } ∧
    exec .tStartHigh s = .next { s with ret := .ticks (s.rom[1].toNat * s.clkBasis / 10000) } ∧
    exec .tZeroLow s = .next { s with ret := .ticks (s.rom[2].toNat * s.clkBasis / 10000) } ∧
    exec .tZeroHigh s = .next { s with ret := .ticks (s.rom[3].toNat * s.clkBasis / 10000) } ∧
    exec .tOneLow s = .next { s with ret := .ticks (s.rom[4].toNat * s.clkBasis / 10000) } ∧
    exec .tOneHigh s = .next { s with ret := .ticks (s.rom[5].toNat * s.clkBasis / 10000) } ∧
    exec .tFreeNi s = .next { s with ret := .ticks (s.rom[6].toNat * s.clkBasis / 10000) } ∧
    exec .tFreeRs s = .next { s with ret := .ticks (s.rom[7].toNat * s.clkBasis / 10000) } ∧
    exec .tBitPeriod s = .next { s with ret := .ticks (s.rom[8].toNat * s.clkBasis / 10000) } ∧
    exec .tSample s = .next { s with ret := .ticks (s.rom[9].toNat * s.clkBasis / 10000) }

/-- ROM.READ returns the entry of an address up to 9 and refuses one above; TICKS converts its operand
(40_timing_table.md R131, R132). -/
def Obligations.RomReadAndTicks : Prop :=
  ∀ s : State, s.faulted = false →
    (∀ (a : BitVec 4) (h : a.toNat < 10), exec (.romRead a) s = .next { s with ret := .micros s.rom[a.toNat] }) ∧
    (∀ a : BitVec 4, 10 ≤ a.toNat → exec (.romRead a) s = .refused .romAddress) ∧
    (∀ us : Micros, exec (.ticks us) s = .next { s with ret := .ticks (us.toNat * s.clkBasis / 10000) })

/-- LOW_TICKS and HIGH_TICKS select the data-one or the data-zero duration by their bit (40_timing_table.md R143,
R144). -/
def Obligations.SelectorsFollowTheBit : Prop :=
  ∀ (s : State) (v : Bit), s.faulted = false →
    exec (.lowTicks v) s = .next { s with ret := .ticks (if v then duration 4 s else duration 2 s) } ∧
    exec (.highTicks v) s = .next { s with ret := .ticks (if v then duration 5 s else duration 3 s) }

/-- The two derived durations subtract tick counts, and with the low phase they make one bit period
(40_timing_table.md R145, R146; 30_encoding.md R98). Each is stated where the subtraction is one of naturals; outside
it the value is free (log 13). -/
def Obligations.AckDurationsSubtractTicks : Prop :=
  ∀ s : State, s.faulted = false →
    (duration 4 s ≤ duration 9 s →
      exec .ackHighTicks s = .next { s with ret := .ticks (duration 9 s - duration 4 s) }) ∧
    (duration 9 s ≤ duration 8 s →
      exec .ackVerifyTicks s = .next { s with ret := .ticks (duration 8 s - duration 9 s) }) ∧
    (∃ h v : Nat, exec .ackHighTicks s = .next { s with ret := .ticks h } ∧
      exec .ackVerifyTicks s = .next { s with ret := .ticks v } ∧
      (duration 4 s ≤ duration 9 s → duration 9 s ≤ duration 8 s → duration 4 s + h + v = duration 8 s))

/-! ## The cursor -/

/-- CUR.RESET writes {0,0} and nothing else (41_cursor.md R161). -/
def Obligations.CursorReset : Prop :=
  ∀ s : State, s.faulted = false → exec .curReset s = .next { s with byte := 0, bit := 0, ret := .nothing }

/-- CUR.BIT returns 0 past the message and bit `7 - BIT` of `MSG[BYTE]` inside it, and writes nothing (41_cursor.md
R162). -/
def Obligations.CursorBitReadsMostSignificantFirst : Prop :=
  ∀ s : State, s.faulted = false →
    (s.len.val ≤ s.byte.val → exec .curBit s = .next { s with ret := .bit false }) ∧
    (∀ h : s.byte.val < s.len.val,
      exec .curBit s = .next { s with ret := .bit ((s.msg[s.byte.val]'(by omega)).getLsbD (7 - s.bit.toNat)) })

/-- CUR.ADV goes to the next bit, from bit 7 to bit 0 of the next byte (41_cursor.md R163), and is refused where that
byte is past 16 (93_implementation_defined.md U19; the refusal's name: log 14). -/
def Obligations.CursorAdvanceRollsOver : Prop :=
  ∀ s : State, s.faulted = false →
    (s.bit ≠ 7 → exec .curAdv s = .next { s with bit := s.bit + 1, ret := .nothing }) ∧
    (s.bit = 7 → s.byte.val < 16 →
      exec .curAdv s = .next { s with byte := s.byte + 1, bit := 0, ret := .nothing }) ∧
    (s.bit = 7 → s.byte = 16 → exec .curAdv s = .refused .byteRange)

/-- CUR.EOM returns 1 exactly when the bit offset is 0 and the byte offset is the length, and writes nothing
(41_cursor.md R164). -/
def Obligations.CursorEndOfMessage : Prop :=
  ∀ s : State, s.faulted = false →
    exec .curEom s = .next { s with ret := .bit (decide (s.bit = 0 ∧ s.byte = s.len)) }

/-! ## The entry actions -/

/-- The entries whose duration does not depend on the message: Idle resets the cursor only; FreeTime, StartLow,
StartHigh, AckLow and AckHigh drive the line and arm the timer (42_fsm_entry.md R181 to R184, R191, R192). -/
def Obligations.FixedEntriesDriveAndArm : Prop :=
  ∀ s : State, s.faulted = false →
    exec .enterIdle s = .next { s with byte := 0, bit := 0, ret := .nothing } ∧
    (s.resends = 0 → TimerTakes s (duration 6 s) → exec .enterFreeTime s = .next (driven true (duration 6 s) s)) ∧
    (s.resends ≠ 0 → TimerTakes s (duration 7 s) → exec .enterFreeTime s = .next (driven true (duration 7 s) s)) ∧
    (TimerTakes s (duration 0 s) →
      exec .enterStartLow s = .next (driven false (duration 0 s) { s with byte := 0, bit := 0 })) ∧
    (TimerTakes s (duration 1 s) → exec .enterStartHigh s = .next (driven true (duration 1 s) s)) ∧
    (TimerTakes s (duration 4 s) → exec .enterAckLow s = .next (driven false (duration 4 s) s)) ∧
    (duration 4 s ≤ duration 9 s → TimerTakes s (duration 9 s - duration 4 s) →
      exec .enterAckHigh s = .next (driven true (duration 9 s - duration 4 s) s))

/-- The six entries of a message bit: the low phase and the high phase of the bit under the cursor, in the header's
initiator nibble, its destination nibble and the data bytes alike (42_fsm_entry.md R185 to R188, R194, R195). -/
def Obligations.BitEntriesFollowTheCursor : Prop :=
  ∀ s : State, s.faulted = false →
    (TimerTakes s (lowFor (curBit s) s) →
      exec .enterHeaderInitLow s = .next (driven false (lowFor (curBit s) s) s) ∧
      exec .enterHeaderDestLow s = .next (driven false (lowFor (curBit s) s) s) ∧
      exec .enterDataLow s = .next (driven false (lowFor (curBit s) s) s)) ∧
    (TimerTakes s (highFor (curBit s) s) →
      exec .enterHeaderInitHigh s = .next (driven true (highFor (curBit s) s) s) ∧
      exec .enterHeaderDestHigh s = .next (driven true (highFor (curBit s) s) s) ∧
      exec .enterDataHigh s = .next (driven true (highFor (curBit s) s) s))

/-- The EOM bit is 1 exactly on the last byte (42_fsm_entry.md R189, R190). -/
def Obligations.EomEntriesMarkTheLastByte : Prop :=
  ∀ s : State, s.faulted = false →
    (s.bit = 0 ∧ s.byte = s.len →
      (TimerTakes s (duration 4 s) → exec .enterEomLow s = .next (driven false (duration 4 s) s)) ∧
      (TimerTakes s (duration 5 s) → exec .enterEomHigh s = .next (driven true (duration 5 s) s))) ∧
    (¬ (s.bit = 0 ∧ s.byte = s.len) →
      (TimerTakes s (duration 2 s) → exec .enterEomLow s = .next (driven false (duration 2 s) s)) ∧
      (TimerTakes s (duration 3 s) → exec .enterEomHigh s = .next (driven true (duration 3 s) s)))

/-- ACK.SAMPLE records the acknowledgment from the bus level, with the rule inverted for a broadcast, and writes
nothing else; with no level laid down the followers' level is some bit (42_fsm_entry.md R196; log 4). -/
def Obligations.SampleInvertsForBroadcast : Prop :=
  ∀ s : State, s.faulted = false →
    (∀ (f : Bit) (fs : List Bit), s.followers = f :: fs →
      exec .ackSample s = .next { s with ack := ackFor f s, followers := fs, ret := .nothing }) ∧
    (s.followers = [] → ∃ f : Bit,
      exec .ackSample s = .next { s with ack := ackFor f s, draws := s.draws + 1, ret := .nothing })

/-- The entry of AckVerify samples the line, leaves its level and arms the timer for the rest of the bit period
(42_fsm_entry.md R193). -/
def Obligations.AckVerifyEntrySamplesAndArms : Prop :=
  ∀ s : State, s.faulted = false → duration 9 s ≤ duration 8 s → TimerTakes s (duration 8 s - duration 9 s) →
    (∀ (f : Bit) (fs : List Bit), s.followers = f :: fs →
      exec .enterAckVerify s =
        .next (driven s.lineOut (duration 8 s - duration 9 s) { s with ack := ackFor f s, followers := fs })) ∧
    (s.followers = [] → ∃ f : Bit,
      exec .enterAckVerify s =
        .next (driven s.lineOut (duration 8 s - duration 9 s) { s with ack := ackFor f s, draws := s.draws + 1 }))

/-! ## The timeout transitions -/

/-- The transitions with one successor whose duration does not depend on the message (43_fsm_transition.md R213, R214,
R221, R222): the successor's entry in the same step, the cursor moved only by the entry of StartLow, which resets it. -/
def Obligations.FixedTransitionsEnterTheirSuccessor : Prop :=
  ∀ s : State, s.faulted = false →
    (TimerTakes s (duration 0 s) →
      exec .timeoutFreeTime s = .next (driven false (duration 0 s) (goto .startLow { s with byte := 0, bit := 0 }))) ∧
    (TimerTakes s (duration 1 s) →
      exec .timeoutStartLow s = .next (driven true (duration 1 s) (goto .startHigh s))) ∧
    (TimerTakes s (duration 4 s) →
      exec .timeoutEomHigh s = .next (driven false (duration 4 s) (goto .ackLow s))) ∧
    (duration 4 s ≤ duration 9 s → TimerTakes s (duration 9 s - duration 4 s) →
      exec .timeoutAckLow s = .next (driven true (duration 9 s - duration 4 s) (goto .ackHigh s)))

/-- The transition of Idle does nothing (43_fsm_transition.md R212), and that of StartHigh starts the cell of the bit
under the cursor, which it does not move (R215). -/
def Obligations.IdleAndStartHighTransitions : Prop :=
  ∀ s : State, s.faulted = false →
    exec .timeoutIdle s = .next { s with ret := .nothing } ∧
    (TimerTakes s (lowFor (curBit s) s) →
      exec .timeoutStartHigh s = .next (driven false (lowFor (curBit s) s) (goto .headerInitLow s)))

/-- The transitions into the high phase of the bit under the cursor, which they do not move (43_fsm_transition.md R216,
R218, R225), and of the EOM bit (R220). -/
def Obligations.CellTransitionsKeepTheCursor : Prop :=
  ∀ s : State, s.faulted = false →
    (TimerTakes s (highFor (curBit s) s) →
      exec .timeoutHeaderInitLow s = .next (driven true (highFor (curBit s) s) (goto .headerInitHigh s)) ∧
      exec .timeoutHeaderDestLow s = .next (driven true (highFor (curBit s) s) (goto .headerDestHigh s)) ∧
      exec .timeoutDataLow s = .next (driven true (highFor (curBit s) s) (goto .dataHigh s))) ∧
    (TimerTakes s (highFor (eomFor s) s) →
      exec .timeoutEomLow s =
        .next (driven true (highFor (eomFor s) s) (goto .eomHigh s)))

/-- The transition out of AckHigh is the sample point (43_fsm_transition.md R223). -/
def Obligations.AckHighTransitionSamples : Prop :=
  ∀ s : State, s.faulted = false → duration 9 s ≤ duration 8 s → TimerTakes s (duration 8 s - duration 9 s) →
    (∀ (f : Bit) (fs : List Bit), s.followers = f :: fs →
      exec .timeoutAckHigh s = .next (driven s.lineOut (duration 8 s - duration 9 s)
        (goto .ackVerify { s with ack := ackFor f s, followers := fs }))) ∧
    (s.followers = [] → ∃ f : Bit,
      exec .timeoutAckHigh s = .next (driven s.lineOut (duration 8 s - duration 9 s)
        (goto .ackVerify { s with ack := ackFor f s, draws := s.draws + 1 })))

/-- The transition out of HeaderInitHigh moves the cursor; four initiator bits lead to the destination nibble
(43_fsm_transition.md R217). -/
def Obligations.HeaderTransitionsCountBits : Prop :=
  ∀ s : State, s.faulted = false → CanAdvance s → TimerTakes s (lowFor (curBit (advanced s)) s) →
    ((advanced s).bit = 4 → exec .timeoutHeaderInitHigh s =
      .next (driven false (lowFor (curBit (advanced s)) s) (goto .headerDestLow (advanced s)))) ∧
    ((advanced s).bit ≠ 4 → exec .timeoutHeaderInitHigh s =
      .next (driven false (lowFor (curBit (advanced s)) s) (goto .headerInitLow (advanced s))))

/-- The transitions out of HeaderDestHigh and DataHigh move the cursor; inside the byte they go on with its next bit, and
the end of the byte leads to the EOM bit (43_fsm_transition.md R219, R226). -/
def Obligations.ByteEndsLeadToTheEomBit : Prop :=
  ∀ s : State, s.faulted = false → CanAdvance s →
    (TimerTakes s (lowFor (curBit (advanced s)) s) →
      ((advanced s).bit ≠ 0 → exec .timeoutDataHigh s =
        .next (driven false (lowFor (curBit (advanced s)) s) (goto .dataLow (advanced s)))) ∧
      ((advanced s).byte ≠ 1 → exec .timeoutHeaderDestHigh s =
        .next (driven false (lowFor (curBit (advanced s)) s) (goto .headerDestLow (advanced s))))) ∧
    (TimerTakes s (lowFor (eomFor (advanced s)) s) →
      ((advanced s).bit = 0 → exec .timeoutDataHigh s =
        .next (driven false (lowFor (eomFor (advanced s)) s)
          (goto .eomLow (advanced s)))) ∧
      ((advanced s).byte = 1 → exec .timeoutHeaderDestHigh s =
        .next (driven false (lowFor (eomFor (advanced s)) s)
          (goto .eomLow (advanced s)))))

/-- The resend policy, one clause for each branch (43_fsm_transition.md R224). -/
def Obligations.ResendPolicy : Prop :=
  ∀ s : State, s.faulted = false →
    (s.ack = true → ¬ (s.bit = 0 ∧ s.byte = s.len) → TimerTakes s (lowFor (curBit s) s) →
      exec .timeoutAckVerify s = .next (driven false (lowFor (curBit s) s) (goto .dataLow s))) ∧
    (s.ack = true → (s.bit = 0 ∧ s.byte = s.len) →
      exec .timeoutAckVerify s = .next { s with
        state := .named .idle, len := 0, resends := 0, byte := 0, bit := 0
        pending := s.pending ||| 2 ^ s.params.okBit, ret := .nothing }) ∧
    (s.ack = false → s.resends.val < 5 → TimerTakes s (duration 7 s) →
      exec .timeoutAckVerify s = .next (driven true (duration 7 s)
        (goto .freeTime { s with resends := s.resends + 1, byte := 0, bit := 0 }))) ∧
    (s.ack = false → 5 ≤ s.resends.val →
      exec .timeoutAckVerify s = .next { s with
        state := .named .idle, len := 0, resends := 0, byte := 0, bit := 0
        pending := s.pending ||| 2 ^ s.params.failedBit, ret := .nothing })

/-! ## The timer, the line and the flags -/

/-- TMR.ARM loads and starts the timer, armed or not, and refuses a count of 0; TMR.STOP disarms it
(44_timer_adapter.md R251, R252). A count wider than the timer loads some count, which is the model's choice (log 12). -/
def Obligations.TimerArmsAndStops : Prop :=
  ∀ s : State, s.faulted = false →
    (∀ n : Nat, TimerTakes s n → exec (.tmrArm n) s = .next { s with tmrCnt := n, tmrArmed := true, ret := .nothing }) ∧
    exec (.tmrArm 0) s = .refused .armZero ∧
    (∀ n : Nat, 2 ^ s.params.timerW ≤ n → ∃ c : Nat, c < 2 ^ s.params.timerW ∧
      exec (.tmrArm n) s = .next { s with tmrCnt := c, tmrArmed := true, ret := .nothing }) ∧
    exec .tmrStop s = .next { s with tmrCnt := 0, tmrArmed := false, ret := .nothing }

/-- LINE.SET sets the block's level; LINE.GET returns the wired-AND of it and the followers' level, which is the next
one laid down or some bit (44_timer_adapter.md R259 to R261; log 4). -/
def Obligations.LineIsAWiredAnd : Prop :=
  ∀ s : State, s.faulted = false →
    (∀ v : Bit, exec (.lineSet v) s = .next { s with lineOut := v, ret := .nothing }) ∧
    (∀ (f : Bit) (fs : List Bit), s.followers = f :: fs →
      exec .lineGet s = .next { s with followers := fs, ret := .bit (s.lineOut && f) }) ∧
    (s.followers = [] → ∃ f : Bit,
      exec .lineGet s = .next { s with draws := s.draws + 1, ret := .bit (s.lineOut && f) })

/-- EVT.POST ORs its flag into the pending word, which makes `evt_avail` high (45_result_notifier.md R281, R283). -/
def Obligations.PostCombinesTheFlag : Prop :=
  ∀ s : State, s.faulted = false →
    exec (.evtPost .sendOk) s = .next { s with pending := s.pending ||| 2 ^ s.params.okBit, ret := .nothing } ∧
    exec (.evtPost .sendFailed) s = .next { s with pending := s.pending ||| 2 ^ s.params.failedBit, ret := .nothing } ∧
    evtAvail { s with pending := s.pending ||| 2 ^ s.params.okBit, ret := .nothing } = true ∧
    evtAvail { s with pending := s.pending ||| 2 ^ s.params.failedBit, ret := .nothing } = true

/-- The three-valued view of the word POLL returns: 0 is none, the one flag is ok, the other is failed, and both have no
value there; with the default positions the words are 0, 1, 2 and 3 (45_result_notifier.md R284). -/
def Obligations.PollViewNamesOneOutcome : Prop :=
  (∀ p : Params, p.admissible = true →
    pollView p 0 = some .none ∧ pollView p (2 ^ p.okBit) = some .ok ∧ pollView p (2 ^ p.failedBit) = some .failed ∧
      pollView p (2 ^ p.okBit ||| 2 ^ p.failedBit) = none) ∧
  pollView .defaults 1 = some .ok ∧ pollView .defaults 2 = some .failed ∧ pollView .defaults 3 = none

/-- An entry whose duration is 0 is refused, taken alone or by the transition or the START that enters it: the timer is
never armed with 0 (44_timer_adapter.md R251, 60_exceptions.md R305). -/
def Obligations.ZeroDurationIsRefused : Prop :=
  ∀ s : State, s.faulted = false →
    (∀ f : Fsm, f ≠ .idle → entryDuration f s = 0 → exec (enterInstr f) s = .refused .armZero) ∧
    (∀ (f g : Fsm) (s1 : State), reached f s = some (g, s1) → entryDuration g s1 = 0 →
      exec (timeoutInstr f) s = .refused .armZero) ∧
    (s.trig = true → s.state = .named .idle → s.len ≠ 0 → duration 6 s = 0 → exec .start s = .refused .armZero)

/-- An entry whose duration is not 0 completes, taken alone or by the transition or the START that enters it, whatever the
duration: one the timer's width cannot hold loads some count, and everything else the entry writes is as for any other
(42_fsm_entry.md R182 to R196, 43_fsm_transition.md R213 to R226). That some count is loaded there is the model's choice
(log 12). -/
def Obligations.EveryDurationArmsTheTimer : Prop :=
  ∀ s : State, s.faulted = false →
    (∀ f : Fsm, f ≠ .idle → 1 ≤ entryDuration f s → ∃ t, exec (enterInstr f) s = .next t ∧ LeftByEntry f s t) ∧
    (∀ (f g : Fsm) (s1 : State), reached f s = some (g, s1) → 1 ≤ entryDuration g s1 →
      ∃ t, exec (timeoutInstr f) s = .next t ∧ LeftByEntry g (goto g s1) t) ∧
    (s.trig = true → s.state = .named .idle → s.len ≠ 0 → 1 ≤ duration 6 s →
      ∃ t, exec .start s = .next t ∧
        LeftByEntry .freeTime (goto .freeTime { s with trig := false, resends := 0, byte := 0, bit := 0 }) t)

/-- The three transitions that move the cursor are refused where it cannot move (93_implementation_defined.md U19; the
refusal's name: log 14). -/
def Obligations.CursorEndStopsTheTransition : Prop :=
  ∀ s : State, s.faulted = false → s.bit = 7 → s.byte = 16 →
    exec .timeoutHeaderInitHigh s = .refused .byteRange ∧ exec .timeoutHeaderDestHigh s = .refused .byteRange ∧
    exec .timeoutDataHigh s = .refused .byteRange

/-! ## Rules of the whole block -/

/-- The state after reset is sound (10_state.md R40, R41). -/
def Obligations.ResetStateIsSound : Prop := Sound State.reset

/-- Every step that takes one of the six operations of a run keeps the invariants of 10_state.md R40, whatever the
followers do and however the operations interleave. -/
def Obligations.EveryEventKeepsTheInvariants : Prop :=
  ∀ (s s' t : State) (i : Instr), Sound s → nextOperation s = .ok (i, s') → isEvent i = true →
    step s = .next t → Sound t

/-- In a sound state every operation of a run completes where the spec gives it an effect: RESET, POLL and TICK always,
START when it is enabled, INIT with an admitted basis between transfers, SEND after INIT. No transition is ever refused
a duration and no fault is taken (40_timing_table.md R147, 43_fsm_transition.md R227). -/
def Obligations.EventsCompleteInSoundStates : Prop :=
  ∀ s : State, Sound s →
    (∃ t, exec .reset s = .next t) ∧ (∃ t, exec .poll s = .next t) ∧
    (∃ t, exec .tick s = .next t ∧ t.faulted = false) ∧
    (s.trig = true → ∃ t, exec .start s = .next t ∧ t.state = .named .freeTime) ∧
    (∀ b : Nat, s.len = 0 → admitted s.params s.rom b = true → ∃ t, exec (.init b) s = .next t) ∧
    (∀ bytes : List Byte, s.inited = true → ∃ t, exec (.send bytes) s = .next t)

/-- Every step of every operation, the parts taken alone too, keeps `STATE` one of the fifteen and the registers whose
width is a parameter within it: `CLKBASIS`, `TMR_CNT`, and in `PENDING` no bit but the two flags (10_state.md R21, R28,
R32, R34). `LEN`, `BYTE` and `RESENDS` have their ranges for types. -/
def Obligations.EveryStepKeepsTheRanges : Prop :=
  ∀ s t : State, step s = .next t → s.state ≠ .reserved ∧ WidthsHold s → t.state ≠ .reserved ∧ WidthsHold t

/-- Who writes what: no operation writes the parameters or the ROM or takes an input; only SEND and RESET write the
message buffer; only INIT and RESET write the basis; only SEND, START and RESET write the trigger; the host's INIT, SEND
and POLL write no register of the FSM, the timer or the line (20_memory.md R71; the parameters: log 8). -/
def Obligations.RegistersAreWrittenByTheirOwners : Prop :=
  ∀ (i : Instr) (s t : State), exec i s = .next t →
    t.params = s.params ∧ t.rom = s.rom ∧ t.inputs = s.inputs ∧
    (i ≠ .reset → (∀ bytes, i ≠ .send bytes) → t.msg = s.msg) ∧
    (i ≠ .reset → (∀ b, i ≠ .init b) → t.clkBasis = s.clkBasis ∧ t.inited = s.inited) ∧
    (i ≠ .reset → i ≠ .start → (∀ bytes, i ≠ .send bytes) → t.trig = s.trig) ∧
    ((i = .poll ∨ (∃ b, i = .init b) ∨ ∃ bytes, i = .send bytes) →
      t.state = s.state ∧ t.byte = s.byte ∧ t.bit = s.bit ∧ t.resends = s.resends ∧ t.ack = s.ack ∧
      t.lineOut = s.lineOut ∧ t.tmrArmed = s.tmrArmed ∧ t.tmrCnt = s.tmrCnt ∧ t.followers = s.followers ∧
      t.draws = s.draws)

/-- No flag is lost: every operation but POLL and RESET keeps every flag that is set (45_result_notifier.md R285). -/
def Obligations.FlagsAreKeptUntilDrained : Prop :=
  ∀ (i : Instr) (s t : State), exec i s = .next t → i ≠ .poll → i ≠ .reset → s.pending &&& t.pending = s.pending

/-- TICK and START are never both effective in a sound state: with the trigger set a TICK changes no register, and with
the timer armed START is not enabled (44_timer_adapter.md R254); that a START that is not enabled is refused is log 11. -/
def Obligations.TickAndStartExclude : Prop :=
  ∀ s : State, Sound s →
    (s.trig = true → exec .tick s = .next { s with ret := .nothing }) ∧
    (s.tmrArmed = true → exec .start s = .refused .startNotEnabled)

/-- Every expiry brings the transfer nearer to its end, whatever the followers do, and inside a frame by exactly one
timeout, so that an acknowledged frame of `LEN` bytes takes `3 + 21 * LEN` timeouts from FreeTime to Idle
(43_fsm_transition.md R228). -/
def Obligations.EveryExpiryShortensTheTransfer : Prop :=
  ∀ s : State, Sound s → s.state ≠ .named .idle → s.tmrCnt ≤ 1 →
    ∃ t, exec .tick s = .next t ∧ Sound t ∧ timeoutsLeft t < timeoutsLeft s ∧
      ((s.state = .named .ackVerify → s.ack = true) → frameLeft t + 1 = frameLeft s)

/-- Every transfer ends: after finitely many ticks the block is in Idle with no message, the resend counter at 0 and
exactly one flag posted, whatever the followers do (43_fsm_transition.md R228). -/
def Obligations.EveryTransferEndsWithOneFlag : Prop :=
  ∀ s : State, Sound s → s.state ≠ .named .idle →
    ∃ (n : Nat) (t : State), n ≤ timeoutsLeft s * 2 ^ s.params.timerW ∧ runTicks n s = .next t ∧ Sound t ∧
      t.state = .named .idle ∧ t.len = 0 ∧ t.resends = 0 ∧
      (t.pending = s.pending ||| 2 ^ s.params.okBit ∨ t.pending = s.pending ||| 2 ^ s.params.failedBit)

/-- A frame every sample of which acknowledges the message ends the transfer with send-ok, one sample for each byte
(43_fsm_transition.md R228 (c)). -/
def Obligations.AcknowledgedTransferSucceeds : Prop :=
  ∀ (s : State) (rest : List Bit), Sound s → s.state = .named .freeTime →
    s.followers = List.replicate s.len.val (ackLevel s) ++ rest →
    ∃ (n : Nat) (t : State), runTicks n s = .next t ∧ t.state = .named .idle ∧ t.len = 0 ∧ t.resends = 0 ∧
      t.pending = s.pending ||| 2 ^ s.params.okBit ∧ t.followers = rest

/-- A transfer no sample of which acknowledges the message takes one frame and one for each resend still allowed, each
ended by its first sample, and ends with send-failed and the resend counter at 0 (43_fsm_transition.md R228 (d)). -/
def Obligations.UnacknowledgedTransferFails : Prop :=
  ∀ (s : State) (rest : List Bit), Sound s → s.state = .named .freeTime →
    s.followers = List.replicate (6 - s.resends.val) (!ackLevel s) ++ rest →
    ∃ (n : Nat) (t : State), runTicks n s = .next t ∧ t.state = .named .idle ∧ t.len = 0 ∧ t.resends = 0 ∧
      t.pending = s.pending ||| 2 ^ s.params.failedBit ∧ t.followers = rest

/-- In a fair run every message that is held is sent or given up: from every point of it, unless a RESET intervenes,
there comes a TICK that ends the transfer in Idle with no message and exactly one flag posted, however the host's
operations interleave, whatever the followers do and however late START is (44_timer_adapter.md R262,
43_fsm_transition.md R228). -/
def Obligations.FairRunsEndEveryTransfer : Prop :=
  ∀ (ops : Nat → Instr) (run : Nat → State) (n : Nat), FairRun ops run → Sound (run 0) → (run n).len ≠ 0 →
    (∀ m, n ≤ m → ops m ≠ .reset) →
    ∃ m, n ≤ m ∧ ops m = .tick ∧ (run m).len ≠ 0 ∧ (run (m + 1)).state = .named .idle ∧ (run (m + 1)).len = 0 ∧
      ((run (m + 1)).pending = (run m).pending ||| 2 ^ (run m).params.okBit ∨
        (run (m + 1)).pending = (run m).pending ||| 2 ^ (run m).params.failedBit)
end

