-- ==== Sys2Proof/Laws/Decode.lean ====
section
/-!
SUPPORT. Reading an operand gives what writing it laid down, and what was read is what writing it lays down.
-/
namespace Sys2Proof

theorem readWord_wordBytes (w : Word) (rest) : readWord (wordBytes w ++ rest) = .ok (w, rest) := by
  simp only [wordBytes, List.cons_append, List.nil_append, readWord]
  congr 2
  ext i hi
  simp only [BitVec.getElem_append, BitVec.getElem_extractLsb']
  have : i < 32 := hi
  interval_cases i <;> simp

theorem readMicros_microsBytes (w : Micros) (rest) : readMicros (microsBytes w ++ rest) = .ok (w, rest) := by
  simp only [microsBytes, List.cons_append, List.nil_append, readMicros]
  congr 2
  ext i hi
  simp only [BitVec.getElem_append, BitVec.getElem_extractLsb']
  have : i < 16 := hi
  interval_cases i <;> simp

theorem toNat_append4 (b0 b1 b2 b3 : Byte) :
    BitVec.toNat (w := 32) (b3 ++ b2 ++ b1 ++ b0) =
      b0.toNat + 256 * b1.toNat + 65536 * b2.toNat + 16777216 * b3.toNat := by
  have h := BitVec.toNat_append (b3 ++ b2 ++ b1) b0
  refine h.trans ?_
  rw [BitVec.toNat_append, BitVec.toNat_append, ← Nat.shiftLeft_add_eq_or_of_lt b0.isLt,
    ← Nat.shiftLeft_add_eq_or_of_lt b1.isLt, ← Nat.shiftLeft_add_eq_or_of_lt b2.isLt]
  simp only [Nat.shiftLeft_eq]; omega

theorem toNat_append2 (b0 b1 : Byte) : BitVec.toNat (w := 16) (b1 ++ b0) = b0.toNat + 256 * b1.toNat := by
  have h := BitVec.toNat_append b1 b0
  refine h.trans ?_
  rw [← Nat.shiftLeft_add_eq_or_of_lt b0.isLt]
  simp only [Nat.shiftLeft_eq]; omega

theorem readWord_ok {bs rest w} (h : readWord bs = .ok (w, rest)) : bs = wordBytes w ++ rest := by
  unfold readWord at h
  split at h
  · rename_i b0 b1 b2 b3 bs'
    cases h
    simp only [wordBytes, List.cons_append, List.nil_append]
    congr 1
    · apply BitVec.eq_of_toNat_eq
      rw [BitVec.extractLsb'_toNat, Nat.shiftRight_eq_div_pow, toNat_append4]
      have := b0.isLt; have := b1.isLt; have := b2.isLt; have := b3.isLt
      omega
    congr 1
    · apply BitVec.eq_of_toNat_eq
      rw [BitVec.extractLsb'_toNat, Nat.shiftRight_eq_div_pow, toNat_append4]
      have := b0.isLt; have := b1.isLt; have := b2.isLt; have := b3.isLt
      omega
    congr 1
    · apply BitVec.eq_of_toNat_eq
      rw [BitVec.extractLsb'_toNat, Nat.shiftRight_eq_div_pow, toNat_append4]
      have := b0.isLt; have := b1.isLt; have := b2.isLt; have := b3.isLt
      omega
    congr 1
    · apply BitVec.eq_of_toNat_eq
      rw [BitVec.extractLsb'_toNat, Nat.shiftRight_eq_div_pow, toNat_append4]
      have := b0.isLt; have := b1.isLt; have := b2.isLt; have := b3.isLt
      omega
  · cases h

theorem readMicros_ok {bs rest w} (h : readMicros bs = .ok (w, rest)) : bs = microsBytes w ++ rest := by
  unfold readMicros at h
  split at h
  · rename_i b0 b1 bs'
    cases h
    simp only [microsBytes, List.cons_append, List.nil_append]
    congr 1
    · apply BitVec.eq_of_toNat_eq
      rw [BitVec.extractLsb'_toNat, Nat.shiftRight_eq_div_pow, toNat_append2]
      have := b0.isLt; have := b1.isLt
      omega
    congr 1
    · apply BitVec.eq_of_toNat_eq
      rw [BitVec.extractLsb'_toNat, Nat.shiftRight_eq_div_pow, toNat_append2]
      have := b0.isLt; have := b1.isLt
      omega
  · cases h

theorem readBit_ok {bs rest w} (h : readBit bs = .ok (w, rest)) : bs = [bitByte w] ++ rest := by
  unfold readBit at h
  split at h
  · split at h
    · cases h; simp [*, bitByte]
    · split at h
      · cases h; simp [*, bitByte]
      · cases h
  · cases h

theorem readFlag_ok {bs rest w} (h : readFlag bs = .ok (w, rest)) : bs = [flagByte w] ++ rest := by
  unfold readFlag at h
  split at h
  · split at h
    · cases h; simp [*, flagByte]
    · split at h
      · cases h; simp [*, flagByte]
      · cases h
  · cases h

theorem readNibble_ok {bs rest w} (h : readNibble bs = .ok (w, rest)) : bs = [w.setWidth 8] ++ rest := by
  unfold readNibble at h
  split at h
  · split at h
    · cases h
      rename_i b _ hb
      simp
      apply BitVec.eq_of_toNat_eq
      simp; omega
    · cases h
  · cases h

theorem readMessage_ok {bs rest w} (h : readMessage bs = .ok (w, rest)) :
    bs = (BitVec.ofNat 8 w.length :: w) ++ rest ∧ w.length ≤ 255 := by
  unfold readMessage at h
  split at h
  · split at h
    · cases h
      rename_i n bs hb
      have := n.isLt
      simp [hb]; omega
    · cases h
  · cases h

theorem withOperand_ok {α} {mk : α → Instr} {r : Read α} {i rest} (h : withOperand mk r = .ok (i, rest)) :
    ∃ a, r = .ok (a, rest) ∧ i = mk a := by
  unfold withOperand at h
  split at h
  · cases h; exact ⟨_, rfl, rfl⟩
  · cases h

theorem opcode_of_halves (op : Byte) (hi lo : Nat) (h1 : op.toNat / 16 = hi) (h2 : op.toNat % 16 = lo) :
    op = BitVec.ofNat 8 (16 * hi + lo) := by
  apply BitVec.eq_of_toNat_eq
  have := op.isLt
  simp; omega

theorem plain_ok {op bs o i rest} (h : plain op bs o = .ok (i, rest)) : o = some i ∧ rest = bs := by
  unfold plain at h
  split at h
  · cases h; exact ⟨rfl, rfl⟩
  · cases h

end Sys2Proof
end

