-- ==== Sys2Proof/Laws/State.lean ====
section
/-!
SUPPORT. What each register update leaves in each field, so that no later proof unfolds a record update.
-/
namespace Sys2Proof.Machine

variable (s : State)

/-! ## setState -/

@[simp] theorem setState_params (f : Fsm) : (setState f s).params = s.params := rfl
@[simp] theorem setState_state (f : Fsm) : (setState f s).state = .named f := rfl
@[simp] theorem setState_msg (f : Fsm) : (setState f s).msg = s.msg := rfl
@[simp] theorem setState_len (f : Fsm) : (setState f s).len = s.len := rfl
@[simp] theorem setState_byte (f : Fsm) : (setState f s).byte = s.byte := rfl
@[simp] theorem setState_bit (f : Fsm) : (setState f s).bit = s.bit := rfl
@[simp] theorem setState_resends (f : Fsm) : (setState f s).resends = s.resends := rfl
@[simp] theorem setState_ack (f : Fsm) : (setState f s).ack = s.ack := rfl
@[simp] theorem setState_clkBasis (f : Fsm) : (setState f s).clkBasis = s.clkBasis := rfl
@[simp] theorem setState_inited (f : Fsm) : (setState f s).inited = s.inited := rfl
@[simp] theorem setState_lineOut (f : Fsm) : (setState f s).lineOut = s.lineOut := rfl
@[simp] theorem setState_tmrArmed (f : Fsm) : (setState f s).tmrArmed = s.tmrArmed := rfl
@[simp] theorem setState_tmrCnt (f : Fsm) : (setState f s).tmrCnt = s.tmrCnt := rfl
@[simp] theorem setState_trig (f : Fsm) : (setState f s).trig = s.trig := rfl
@[simp] theorem setState_pending (f : Fsm) : (setState f s).pending = s.pending := rfl
@[simp] theorem setState_rom (f : Fsm) : (setState f s).rom = s.rom := rfl
@[simp] theorem setState_faulted (f : Fsm) : (setState f s).faulted = s.faulted := rfl
@[simp] theorem setState_ret (f : Fsm) : (setState f s).ret = s.ret := rfl
@[simp] theorem setState_inputs (f : Fsm) : (setState f s).inputs = s.inputs := rfl
@[simp] theorem setState_followers (f : Fsm) : (setState f s).followers = s.followers := rfl
@[simp] theorem setState_draws (f : Fsm) : (setState f s).draws = s.draws := rfl

/-! ## setLine -/

@[simp] theorem setLine_params (v : Bit) : (setLine v s).params = s.params := rfl
@[simp] theorem setLine_state (v : Bit) : (setLine v s).state = s.state := rfl
@[simp] theorem setLine_msg (v : Bit) : (setLine v s).msg = s.msg := rfl
@[simp] theorem setLine_len (v : Bit) : (setLine v s).len = s.len := rfl
@[simp] theorem setLine_byte (v : Bit) : (setLine v s).byte = s.byte := rfl
@[simp] theorem setLine_bit (v : Bit) : (setLine v s).bit = s.bit := rfl
@[simp] theorem setLine_resends (v : Bit) : (setLine v s).resends = s.resends := rfl
@[simp] theorem setLine_ack (v : Bit) : (setLine v s).ack = s.ack := rfl
@[simp] theorem setLine_clkBasis (v : Bit) : (setLine v s).clkBasis = s.clkBasis := rfl
@[simp] theorem setLine_inited (v : Bit) : (setLine v s).inited = s.inited := rfl
@[simp] theorem setLine_lineOut (v : Bit) : (setLine v s).lineOut = v := rfl
@[simp] theorem setLine_tmrArmed (v : Bit) : (setLine v s).tmrArmed = s.tmrArmed := rfl
@[simp] theorem setLine_tmrCnt (v : Bit) : (setLine v s).tmrCnt = s.tmrCnt := rfl
@[simp] theorem setLine_trig (v : Bit) : (setLine v s).trig = s.trig := rfl
@[simp] theorem setLine_pending (v : Bit) : (setLine v s).pending = s.pending := rfl
@[simp] theorem setLine_rom (v : Bit) : (setLine v s).rom = s.rom := rfl
@[simp] theorem setLine_faulted (v : Bit) : (setLine v s).faulted = s.faulted := rfl
@[simp] theorem setLine_ret (v : Bit) : (setLine v s).ret = s.ret := rfl
@[simp] theorem setLine_inputs (v : Bit) : (setLine v s).inputs = s.inputs := rfl
@[simp] theorem setLine_followers (v : Bit) : (setLine v s).followers = s.followers := rfl
@[simp] theorem setLine_draws (v : Bit) : (setLine v s).draws = s.draws := rfl

/-! ## loadTimer -/

@[simp] theorem loadTimer_params (n : Nat) : (loadTimer n s).params = s.params := rfl
@[simp] theorem loadTimer_state (n : Nat) : (loadTimer n s).state = s.state := rfl
@[simp] theorem loadTimer_msg (n : Nat) : (loadTimer n s).msg = s.msg := rfl
@[simp] theorem loadTimer_len (n : Nat) : (loadTimer n s).len = s.len := rfl
@[simp] theorem loadTimer_byte (n : Nat) : (loadTimer n s).byte = s.byte := rfl
@[simp] theorem loadTimer_bit (n : Nat) : (loadTimer n s).bit = s.bit := rfl
@[simp] theorem loadTimer_resends (n : Nat) : (loadTimer n s).resends = s.resends := rfl
@[simp] theorem loadTimer_ack (n : Nat) : (loadTimer n s).ack = s.ack := rfl
@[simp] theorem loadTimer_clkBasis (n : Nat) : (loadTimer n s).clkBasis = s.clkBasis := rfl
@[simp] theorem loadTimer_inited (n : Nat) : (loadTimer n s).inited = s.inited := rfl
@[simp] theorem loadTimer_lineOut (n : Nat) : (loadTimer n s).lineOut = s.lineOut := rfl
@[simp] theorem loadTimer_tmrArmed (n : Nat) : (loadTimer n s).tmrArmed = true := rfl
@[simp] theorem loadTimer_tmrCnt (n : Nat) : (loadTimer n s).tmrCnt = n := rfl
@[simp] theorem loadTimer_trig (n : Nat) : (loadTimer n s).trig = s.trig := rfl
@[simp] theorem loadTimer_pending (n : Nat) : (loadTimer n s).pending = s.pending := rfl
@[simp] theorem loadTimer_rom (n : Nat) : (loadTimer n s).rom = s.rom := rfl
@[simp] theorem loadTimer_faulted (n : Nat) : (loadTimer n s).faulted = s.faulted := rfl
@[simp] theorem loadTimer_ret (n : Nat) : (loadTimer n s).ret = s.ret := rfl
@[simp] theorem loadTimer_inputs (n : Nat) : (loadTimer n s).inputs = s.inputs := rfl
@[simp] theorem loadTimer_followers (n : Nat) : (loadTimer n s).followers = s.followers := rfl
@[simp] theorem loadTimer_draws (n : Nat) : (loadTimer n s).draws = s.draws := rfl

/-! ## stopTimer -/

@[simp] theorem stopTimer_params : (stopTimer s).params = s.params := rfl
@[simp] theorem stopTimer_state : (stopTimer s).state = s.state := rfl
@[simp] theorem stopTimer_msg : (stopTimer s).msg = s.msg := rfl
@[simp] theorem stopTimer_len : (stopTimer s).len = s.len := rfl
@[simp] theorem stopTimer_byte : (stopTimer s).byte = s.byte := rfl
@[simp] theorem stopTimer_bit : (stopTimer s).bit = s.bit := rfl
@[simp] theorem stopTimer_resends : (stopTimer s).resends = s.resends := rfl
@[simp] theorem stopTimer_ack : (stopTimer s).ack = s.ack := rfl
@[simp] theorem stopTimer_clkBasis : (stopTimer s).clkBasis = s.clkBasis := rfl
@[simp] theorem stopTimer_inited : (stopTimer s).inited = s.inited := rfl
@[simp] theorem stopTimer_lineOut : (stopTimer s).lineOut = s.lineOut := rfl
@[simp] theorem stopTimer_tmrArmed : (stopTimer s).tmrArmed = false := rfl
@[simp] theorem stopTimer_tmrCnt : (stopTimer s).tmrCnt = 0 := rfl
@[simp] theorem stopTimer_trig : (stopTimer s).trig = s.trig := rfl
@[simp] theorem stopTimer_pending : (stopTimer s).pending = s.pending := rfl
@[simp] theorem stopTimer_rom : (stopTimer s).rom = s.rom := rfl
@[simp] theorem stopTimer_faulted : (stopTimer s).faulted = s.faulted := rfl
@[simp] theorem stopTimer_ret : (stopTimer s).ret = s.ret := rfl
@[simp] theorem stopTimer_inputs : (stopTimer s).inputs = s.inputs := rfl
@[simp] theorem stopTimer_followers : (stopTimer s).followers = s.followers := rfl
@[simp] theorem stopTimer_draws : (stopTimer s).draws = s.draws := rfl

/-! ## countDown -/

@[simp] theorem countDown_params : (countDown s).params = s.params := rfl
@[simp] theorem countDown_state : (countDown s).state = s.state := rfl
@[simp] theorem countDown_msg : (countDown s).msg = s.msg := rfl
@[simp] theorem countDown_len : (countDown s).len = s.len := rfl
@[simp] theorem countDown_byte : (countDown s).byte = s.byte := rfl
@[simp] theorem countDown_bit : (countDown s).bit = s.bit := rfl
@[simp] theorem countDown_resends : (countDown s).resends = s.resends := rfl
@[simp] theorem countDown_ack : (countDown s).ack = s.ack := rfl
@[simp] theorem countDown_clkBasis : (countDown s).clkBasis = s.clkBasis := rfl
@[simp] theorem countDown_inited : (countDown s).inited = s.inited := rfl
@[simp] theorem countDown_lineOut : (countDown s).lineOut = s.lineOut := rfl
@[simp] theorem countDown_tmrArmed : (countDown s).tmrArmed = s.tmrArmed := rfl
@[simp] theorem countDown_tmrCnt : (countDown s).tmrCnt = s.tmrCnt - 1 := rfl
@[simp] theorem countDown_trig : (countDown s).trig = s.trig := rfl
@[simp] theorem countDown_pending : (countDown s).pending = s.pending := rfl
@[simp] theorem countDown_rom : (countDown s).rom = s.rom := rfl
@[simp] theorem countDown_faulted : (countDown s).faulted = s.faulted := rfl
@[simp] theorem countDown_ret : (countDown s).ret = s.ret := rfl
@[simp] theorem countDown_inputs : (countDown s).inputs = s.inputs := rfl
@[simp] theorem countDown_followers : (countDown s).followers = s.followers := rfl
@[simp] theorem countDown_draws : (countDown s).draws = s.draws := rfl

/-! ## resetCursor -/

@[simp] theorem resetCursor_params : (resetCursor s).params = s.params := rfl
@[simp] theorem resetCursor_state : (resetCursor s).state = s.state := rfl
@[simp] theorem resetCursor_msg : (resetCursor s).msg = s.msg := rfl
@[simp] theorem resetCursor_len : (resetCursor s).len = s.len := rfl
@[simp] theorem resetCursor_byte : (resetCursor s).byte = 0 := rfl
@[simp] theorem resetCursor_bit : (resetCursor s).bit = 0 := rfl
@[simp] theorem resetCursor_resends : (resetCursor s).resends = s.resends := rfl
@[simp] theorem resetCursor_ack : (resetCursor s).ack = s.ack := rfl
@[simp] theorem resetCursor_clkBasis : (resetCursor s).clkBasis = s.clkBasis := rfl
@[simp] theorem resetCursor_inited : (resetCursor s).inited = s.inited := rfl
@[simp] theorem resetCursor_lineOut : (resetCursor s).lineOut = s.lineOut := rfl
@[simp] theorem resetCursor_tmrArmed : (resetCursor s).tmrArmed = s.tmrArmed := rfl
@[simp] theorem resetCursor_tmrCnt : (resetCursor s).tmrCnt = s.tmrCnt := rfl
@[simp] theorem resetCursor_trig : (resetCursor s).trig = s.trig := rfl
@[simp] theorem resetCursor_pending : (resetCursor s).pending = s.pending := rfl
@[simp] theorem resetCursor_rom : (resetCursor s).rom = s.rom := rfl
@[simp] theorem resetCursor_faulted : (resetCursor s).faulted = s.faulted := rfl
@[simp] theorem resetCursor_ret : (resetCursor s).ret = s.ret := rfl
@[simp] theorem resetCursor_inputs : (resetCursor s).inputs = s.inputs := rfl
@[simp] theorem resetCursor_followers : (resetCursor s).followers = s.followers := rfl
@[simp] theorem resetCursor_draws : (resetCursor s).draws = s.draws := rfl

/-! ## setAck -/

@[simp] theorem setAck_params (a : Bit) : (setAck a s).params = s.params := rfl
@[simp] theorem setAck_state (a : Bit) : (setAck a s).state = s.state := rfl
@[simp] theorem setAck_msg (a : Bit) : (setAck a s).msg = s.msg := rfl
@[simp] theorem setAck_len (a : Bit) : (setAck a s).len = s.len := rfl
@[simp] theorem setAck_byte (a : Bit) : (setAck a s).byte = s.byte := rfl
@[simp] theorem setAck_bit (a : Bit) : (setAck a s).bit = s.bit := rfl
@[simp] theorem setAck_resends (a : Bit) : (setAck a s).resends = s.resends := rfl
@[simp] theorem setAck_ack (a : Bit) : (setAck a s).ack = a := rfl
@[simp] theorem setAck_clkBasis (a : Bit) : (setAck a s).clkBasis = s.clkBasis := rfl
@[simp] theorem setAck_inited (a : Bit) : (setAck a s).inited = s.inited := rfl
@[simp] theorem setAck_lineOut (a : Bit) : (setAck a s).lineOut = s.lineOut := rfl
@[simp] theorem setAck_tmrArmed (a : Bit) : (setAck a s).tmrArmed = s.tmrArmed := rfl
@[simp] theorem setAck_tmrCnt (a : Bit) : (setAck a s).tmrCnt = s.tmrCnt := rfl
@[simp] theorem setAck_trig (a : Bit) : (setAck a s).trig = s.trig := rfl
@[simp] theorem setAck_pending (a : Bit) : (setAck a s).pending = s.pending := rfl
@[simp] theorem setAck_rom (a : Bit) : (setAck a s).rom = s.rom := rfl
@[simp] theorem setAck_faulted (a : Bit) : (setAck a s).faulted = s.faulted := rfl
@[simp] theorem setAck_ret (a : Bit) : (setAck a s).ret = s.ret := rfl
@[simp] theorem setAck_inputs (a : Bit) : (setAck a s).inputs = s.inputs := rfl
@[simp] theorem setAck_followers (a : Bit) : (setAck a s).followers = s.followers := rfl
@[simp] theorem setAck_draws (a : Bit) : (setAck a s).draws = s.draws := rfl

/-! ## setResends -/

@[simp] theorem setResends_params (n : Fin 6) : (setResends n s).params = s.params := rfl
@[simp] theorem setResends_state (n : Fin 6) : (setResends n s).state = s.state := rfl
@[simp] theorem setResends_msg (n : Fin 6) : (setResends n s).msg = s.msg := rfl
@[simp] theorem setResends_len (n : Fin 6) : (setResends n s).len = s.len := rfl
@[simp] theorem setResends_byte (n : Fin 6) : (setResends n s).byte = s.byte := rfl
@[simp] theorem setResends_bit (n : Fin 6) : (setResends n s).bit = s.bit := rfl
@[simp] theorem setResends_resends (n : Fin 6) : (setResends n s).resends = n := rfl
@[simp] theorem setResends_ack (n : Fin 6) : (setResends n s).ack = s.ack := rfl
@[simp] theorem setResends_clkBasis (n : Fin 6) : (setResends n s).clkBasis = s.clkBasis := rfl
@[simp] theorem setResends_inited (n : Fin 6) : (setResends n s).inited = s.inited := rfl
@[simp] theorem setResends_lineOut (n : Fin 6) : (setResends n s).lineOut = s.lineOut := rfl
@[simp] theorem setResends_tmrArmed (n : Fin 6) : (setResends n s).tmrArmed = s.tmrArmed := rfl
@[simp] theorem setResends_tmrCnt (n : Fin 6) : (setResends n s).tmrCnt = s.tmrCnt := rfl
@[simp] theorem setResends_trig (n : Fin 6) : (setResends n s).trig = s.trig := rfl
@[simp] theorem setResends_pending (n : Fin 6) : (setResends n s).pending = s.pending := rfl
@[simp] theorem setResends_rom (n : Fin 6) : (setResends n s).rom = s.rom := rfl
@[simp] theorem setResends_faulted (n : Fin 6) : (setResends n s).faulted = s.faulted := rfl
@[simp] theorem setResends_ret (n : Fin 6) : (setResends n s).ret = s.ret := rfl
@[simp] theorem setResends_inputs (n : Fin 6) : (setResends n s).inputs = s.inputs := rfl
@[simp] theorem setResends_followers (n : Fin 6) : (setResends n s).followers = s.followers := rfl
@[simp] theorem setResends_draws (n : Fin 6) : (setResends n s).draws = s.draws := rfl

/-! ## clearTransfer -/

@[simp] theorem clearTransfer_params : (clearTransfer s).params = s.params := rfl
@[simp] theorem clearTransfer_state : (clearTransfer s).state = s.state := rfl
@[simp] theorem clearTransfer_msg : (clearTransfer s).msg = s.msg := rfl
@[simp] theorem clearTransfer_len : (clearTransfer s).len = 0 := rfl
@[simp] theorem clearTransfer_byte : (clearTransfer s).byte = s.byte := rfl
@[simp] theorem clearTransfer_bit : (clearTransfer s).bit = s.bit := rfl
@[simp] theorem clearTransfer_resends : (clearTransfer s).resends = 0 := rfl
@[simp] theorem clearTransfer_ack : (clearTransfer s).ack = s.ack := rfl
@[simp] theorem clearTransfer_clkBasis : (clearTransfer s).clkBasis = s.clkBasis := rfl
@[simp] theorem clearTransfer_inited : (clearTransfer s).inited = s.inited := rfl
@[simp] theorem clearTransfer_lineOut : (clearTransfer s).lineOut = s.lineOut := rfl
@[simp] theorem clearTransfer_tmrArmed : (clearTransfer s).tmrArmed = s.tmrArmed := rfl
@[simp] theorem clearTransfer_tmrCnt : (clearTransfer s).tmrCnt = s.tmrCnt := rfl
@[simp] theorem clearTransfer_trig : (clearTransfer s).trig = s.trig := rfl
@[simp] theorem clearTransfer_pending : (clearTransfer s).pending = s.pending := rfl
@[simp] theorem clearTransfer_rom : (clearTransfer s).rom = s.rom := rfl
@[simp] theorem clearTransfer_faulted : (clearTransfer s).faulted = s.faulted := rfl
@[simp] theorem clearTransfer_ret : (clearTransfer s).ret = s.ret := rfl
@[simp] theorem clearTransfer_inputs : (clearTransfer s).inputs = s.inputs := rfl
@[simp] theorem clearTransfer_followers : (clearTransfer s).followers = s.followers := rfl
@[simp] theorem clearTransfer_draws : (clearTransfer s).draws = s.draws := rfl

/-! ## orPending -/

@[simp] theorem orPending_params (w : Nat) : (orPending w s).params = s.params := rfl
@[simp] theorem orPending_state (w : Nat) : (orPending w s).state = s.state := rfl
@[simp] theorem orPending_msg (w : Nat) : (orPending w s).msg = s.msg := rfl
@[simp] theorem orPending_len (w : Nat) : (orPending w s).len = s.len := rfl
@[simp] theorem orPending_byte (w : Nat) : (orPending w s).byte = s.byte := rfl
@[simp] theorem orPending_bit (w : Nat) : (orPending w s).bit = s.bit := rfl
@[simp] theorem orPending_resends (w : Nat) : (orPending w s).resends = s.resends := rfl
@[simp] theorem orPending_ack (w : Nat) : (orPending w s).ack = s.ack := rfl
@[simp] theorem orPending_clkBasis (w : Nat) : (orPending w s).clkBasis = s.clkBasis := rfl
@[simp] theorem orPending_inited (w : Nat) : (orPending w s).inited = s.inited := rfl
@[simp] theorem orPending_lineOut (w : Nat) : (orPending w s).lineOut = s.lineOut := rfl
@[simp] theorem orPending_tmrArmed (w : Nat) : (orPending w s).tmrArmed = s.tmrArmed := rfl
@[simp] theorem orPending_tmrCnt (w : Nat) : (orPending w s).tmrCnt = s.tmrCnt := rfl
@[simp] theorem orPending_trig (w : Nat) : (orPending w s).trig = s.trig := rfl
@[simp] theorem orPending_pending (w : Nat) : (orPending w s).pending = s.pending ||| w := rfl
@[simp] theorem orPending_rom (w : Nat) : (orPending w s).rom = s.rom := rfl
@[simp] theorem orPending_faulted (w : Nat) : (orPending w s).faulted = s.faulted := rfl
@[simp] theorem orPending_ret (w : Nat) : (orPending w s).ret = s.ret := rfl
@[simp] theorem orPending_inputs (w : Nat) : (orPending w s).inputs = s.inputs := rfl
@[simp] theorem orPending_followers (w : Nat) : (orPending w s).followers = s.followers := rfl
@[simp] theorem orPending_draws (w : Nat) : (orPending w s).draws = s.draws := rfl

/-! ## clearPending -/

@[simp] theorem clearPending_params : (clearPending s).params = s.params := rfl
@[simp] theorem clearPending_state : (clearPending s).state = s.state := rfl
@[simp] theorem clearPending_msg : (clearPending s).msg = s.msg := rfl
@[simp] theorem clearPending_len : (clearPending s).len = s.len := rfl
@[simp] theorem clearPending_byte : (clearPending s).byte = s.byte := rfl
@[simp] theorem clearPending_bit : (clearPending s).bit = s.bit := rfl
@[simp] theorem clearPending_resends : (clearPending s).resends = s.resends := rfl
@[simp] theorem clearPending_ack : (clearPending s).ack = s.ack := rfl
@[simp] theorem clearPending_clkBasis : (clearPending s).clkBasis = s.clkBasis := rfl
@[simp] theorem clearPending_inited : (clearPending s).inited = s.inited := rfl
@[simp] theorem clearPending_lineOut : (clearPending s).lineOut = s.lineOut := rfl
@[simp] theorem clearPending_tmrArmed : (clearPending s).tmrArmed = s.tmrArmed := rfl
@[simp] theorem clearPending_tmrCnt : (clearPending s).tmrCnt = s.tmrCnt := rfl
@[simp] theorem clearPending_trig : (clearPending s).trig = s.trig := rfl
@[simp] theorem clearPending_pending : (clearPending s).pending = 0 := rfl
@[simp] theorem clearPending_rom : (clearPending s).rom = s.rom := rfl
@[simp] theorem clearPending_faulted : (clearPending s).faulted = s.faulted := rfl
@[simp] theorem clearPending_ret : (clearPending s).ret = s.ret := rfl
@[simp] theorem clearPending_inputs : (clearPending s).inputs = s.inputs := rfl
@[simp] theorem clearPending_followers : (clearPending s).followers = s.followers := rfl
@[simp] theorem clearPending_draws : (clearPending s).draws = s.draws := rfl

/-! ## setTrig -/

@[simp] theorem setTrig_params (v : Bit) : (setTrig v s).params = s.params := rfl
@[simp] theorem setTrig_state (v : Bit) : (setTrig v s).state = s.state := rfl
@[simp] theorem setTrig_msg (v : Bit) : (setTrig v s).msg = s.msg := rfl
@[simp] theorem setTrig_len (v : Bit) : (setTrig v s).len = s.len := rfl
@[simp] theorem setTrig_byte (v : Bit) : (setTrig v s).byte = s.byte := rfl
@[simp] theorem setTrig_bit (v : Bit) : (setTrig v s).bit = s.bit := rfl
@[simp] theorem setTrig_resends (v : Bit) : (setTrig v s).resends = s.resends := rfl
@[simp] theorem setTrig_ack (v : Bit) : (setTrig v s).ack = s.ack := rfl
@[simp] theorem setTrig_clkBasis (v : Bit) : (setTrig v s).clkBasis = s.clkBasis := rfl
@[simp] theorem setTrig_inited (v : Bit) : (setTrig v s).inited = s.inited := rfl
@[simp] theorem setTrig_lineOut (v : Bit) : (setTrig v s).lineOut = s.lineOut := rfl
@[simp] theorem setTrig_tmrArmed (v : Bit) : (setTrig v s).tmrArmed = s.tmrArmed := rfl
@[simp] theorem setTrig_tmrCnt (v : Bit) : (setTrig v s).tmrCnt = s.tmrCnt := rfl
@[simp] theorem setTrig_trig (v : Bit) : (setTrig v s).trig = v := rfl
@[simp] theorem setTrig_pending (v : Bit) : (setTrig v s).pending = s.pending := rfl
@[simp] theorem setTrig_rom (v : Bit) : (setTrig v s).rom = s.rom := rfl
@[simp] theorem setTrig_faulted (v : Bit) : (setTrig v s).faulted = s.faulted := rfl
@[simp] theorem setTrig_ret (v : Bit) : (setTrig v s).ret = s.ret := rfl
@[simp] theorem setTrig_inputs (v : Bit) : (setTrig v s).inputs = s.inputs := rfl
@[simp] theorem setTrig_followers (v : Bit) : (setTrig v s).followers = s.followers := rfl
@[simp] theorem setTrig_draws (v : Bit) : (setTrig v s).draws = s.draws := rfl

/-! ## setBasis -/

@[simp] theorem setBasis_params (b : Nat) : (setBasis b s).params = s.params := rfl
@[simp] theorem setBasis_state (b : Nat) : (setBasis b s).state = s.state := rfl
@[simp] theorem setBasis_msg (b : Nat) : (setBasis b s).msg = s.msg := rfl
@[simp] theorem setBasis_len (b : Nat) : (setBasis b s).len = s.len := rfl
@[simp] theorem setBasis_byte (b : Nat) : (setBasis b s).byte = s.byte := rfl
@[simp] theorem setBasis_bit (b : Nat) : (setBasis b s).bit = s.bit := rfl
@[simp] theorem setBasis_resends (b : Nat) : (setBasis b s).resends = s.resends := rfl
@[simp] theorem setBasis_ack (b : Nat) : (setBasis b s).ack = s.ack := rfl
@[simp] theorem setBasis_clkBasis (b : Nat) : (setBasis b s).clkBasis = b := rfl
@[simp] theorem setBasis_inited (b : Nat) : (setBasis b s).inited = true := rfl
@[simp] theorem setBasis_lineOut (b : Nat) : (setBasis b s).lineOut = s.lineOut := rfl
@[simp] theorem setBasis_tmrArmed (b : Nat) : (setBasis b s).tmrArmed = s.tmrArmed := rfl
@[simp] theorem setBasis_tmrCnt (b : Nat) : (setBasis b s).tmrCnt = s.tmrCnt := rfl
@[simp] theorem setBasis_trig (b : Nat) : (setBasis b s).trig = s.trig := rfl
@[simp] theorem setBasis_pending (b : Nat) : (setBasis b s).pending = s.pending := rfl
@[simp] theorem setBasis_rom (b : Nat) : (setBasis b s).rom = s.rom := rfl
@[simp] theorem setBasis_faulted (b : Nat) : (setBasis b s).faulted = s.faulted := rfl
@[simp] theorem setBasis_ret (b : Nat) : (setBasis b s).ret = s.ret := rfl
@[simp] theorem setBasis_inputs (b : Nat) : (setBasis b s).inputs = s.inputs := rfl
@[simp] theorem setBasis_followers (b : Nat) : (setBasis b s).followers = s.followers := rfl
@[simp] theorem setBasis_draws (b : Nat) : (setBasis b s).draws = s.draws := rfl

/-! ## loadMessage -/

@[simp] theorem loadMessage_params (bytes : List Byte) : (loadMessage bytes s).params = s.params := rfl
@[simp] theorem loadMessage_state (bytes : List Byte) : (loadMessage bytes s).state = s.state := rfl
@[simp] theorem loadMessage_msg (bytes : List Byte) : (loadMessage bytes s).msg = copyBytes bytes 0 s.msg := rfl
@[simp] theorem loadMessage_len (bytes : List Byte) : (loadMessage bytes s).len = Fin.ofNat 17 bytes.length := rfl
@[simp] theorem loadMessage_byte (bytes : List Byte) : (loadMessage bytes s).byte = s.byte := rfl
@[simp] theorem loadMessage_bit (bytes : List Byte) : (loadMessage bytes s).bit = s.bit := rfl
@[simp] theorem loadMessage_resends (bytes : List Byte) : (loadMessage bytes s).resends = s.resends := rfl
@[simp] theorem loadMessage_ack (bytes : List Byte) : (loadMessage bytes s).ack = s.ack := rfl
@[simp] theorem loadMessage_clkBasis (bytes : List Byte) : (loadMessage bytes s).clkBasis = s.clkBasis := rfl
@[simp] theorem loadMessage_inited (bytes : List Byte) : (loadMessage bytes s).inited = s.inited := rfl
@[simp] theorem loadMessage_lineOut (bytes : List Byte) : (loadMessage bytes s).lineOut = s.lineOut := rfl
@[simp] theorem loadMessage_tmrArmed (bytes : List Byte) : (loadMessage bytes s).tmrArmed = s.tmrArmed := rfl
@[simp] theorem loadMessage_tmrCnt (bytes : List Byte) : (loadMessage bytes s).tmrCnt = s.tmrCnt := rfl
@[simp] theorem loadMessage_trig (bytes : List Byte) : (loadMessage bytes s).trig = true := rfl
@[simp] theorem loadMessage_pending (bytes : List Byte) : (loadMessage bytes s).pending = s.pending := rfl
@[simp] theorem loadMessage_rom (bytes : List Byte) : (loadMessage bytes s).rom = s.rom := rfl
@[simp] theorem loadMessage_faulted (bytes : List Byte) : (loadMessage bytes s).faulted = s.faulted := rfl
@[simp] theorem loadMessage_ret (bytes : List Byte) : (loadMessage bytes s).ret = s.ret := rfl
@[simp] theorem loadMessage_inputs (bytes : List Byte) : (loadMessage bytes s).inputs = s.inputs := rfl
@[simp] theorem loadMessage_followers (bytes : List Byte) : (loadMessage bytes s).followers = s.followers := rfl
@[simp] theorem loadMessage_draws (bytes : List Byte) : (loadMessage bytes s).draws = s.draws := rfl

/-! ## raiseIllegalState -/

@[simp] theorem raiseIllegalState_params : (raiseIllegalState s).params = s.params := rfl
@[simp] theorem raiseIllegalState_state : (raiseIllegalState s).state = s.state := rfl
@[simp] theorem raiseIllegalState_msg : (raiseIllegalState s).msg = s.msg := rfl
@[simp] theorem raiseIllegalState_len : (raiseIllegalState s).len = s.len := rfl
@[simp] theorem raiseIllegalState_byte : (raiseIllegalState s).byte = s.byte := rfl
@[simp] theorem raiseIllegalState_bit : (raiseIllegalState s).bit = s.bit := rfl
@[simp] theorem raiseIllegalState_resends : (raiseIllegalState s).resends = s.resends := rfl
@[simp] theorem raiseIllegalState_ack : (raiseIllegalState s).ack = s.ack := rfl
@[simp] theorem raiseIllegalState_clkBasis : (raiseIllegalState s).clkBasis = s.clkBasis := rfl
@[simp] theorem raiseIllegalState_inited : (raiseIllegalState s).inited = s.inited := rfl
@[simp] theorem raiseIllegalState_lineOut : (raiseIllegalState s).lineOut = s.lineOut := rfl
@[simp] theorem raiseIllegalState_tmrArmed : (raiseIllegalState s).tmrArmed = s.tmrArmed := rfl
@[simp] theorem raiseIllegalState_tmrCnt : (raiseIllegalState s).tmrCnt = s.tmrCnt := rfl
@[simp] theorem raiseIllegalState_trig : (raiseIllegalState s).trig = s.trig := rfl
@[simp] theorem raiseIllegalState_pending : (raiseIllegalState s).pending = s.pending := rfl
@[simp] theorem raiseIllegalState_rom : (raiseIllegalState s).rom = s.rom := rfl
@[simp] theorem raiseIllegalState_faulted : (raiseIllegalState s).faulted = true := rfl
@[simp] theorem raiseIllegalState_ret : (raiseIllegalState s).ret = s.ret := rfl
@[simp] theorem raiseIllegalState_inputs : (raiseIllegalState s).inputs = s.inputs := rfl
@[simp] theorem raiseIllegalState_followers : (raiseIllegalState s).followers = s.followers := rfl
@[simp] theorem raiseIllegalState_draws : (raiseIllegalState s).draws = s.draws := rfl

/-! ## pushInput -/

@[simp] theorem pushInput_params (bytes : List Byte) : (pushInput bytes s).params = s.params := rfl
@[simp] theorem pushInput_state (bytes : List Byte) : (pushInput bytes s).state = s.state := rfl
@[simp] theorem pushInput_msg (bytes : List Byte) : (pushInput bytes s).msg = s.msg := rfl
@[simp] theorem pushInput_len (bytes : List Byte) : (pushInput bytes s).len = s.len := rfl
@[simp] theorem pushInput_byte (bytes : List Byte) : (pushInput bytes s).byte = s.byte := rfl
@[simp] theorem pushInput_bit (bytes : List Byte) : (pushInput bytes s).bit = s.bit := rfl
@[simp] theorem pushInput_resends (bytes : List Byte) : (pushInput bytes s).resends = s.resends := rfl
@[simp] theorem pushInput_ack (bytes : List Byte) : (pushInput bytes s).ack = s.ack := rfl
@[simp] theorem pushInput_clkBasis (bytes : List Byte) : (pushInput bytes s).clkBasis = s.clkBasis := rfl
@[simp] theorem pushInput_inited (bytes : List Byte) : (pushInput bytes s).inited = s.inited := rfl
@[simp] theorem pushInput_lineOut (bytes : List Byte) : (pushInput bytes s).lineOut = s.lineOut := rfl
@[simp] theorem pushInput_tmrArmed (bytes : List Byte) : (pushInput bytes s).tmrArmed = s.tmrArmed := rfl
@[simp] theorem pushInput_tmrCnt (bytes : List Byte) : (pushInput bytes s).tmrCnt = s.tmrCnt := rfl
@[simp] theorem pushInput_trig (bytes : List Byte) : (pushInput bytes s).trig = s.trig := rfl
@[simp] theorem pushInput_pending (bytes : List Byte) : (pushInput bytes s).pending = s.pending := rfl
@[simp] theorem pushInput_rom (bytes : List Byte) : (pushInput bytes s).rom = s.rom := rfl
@[simp] theorem pushInput_faulted (bytes : List Byte) : (pushInput bytes s).faulted = s.faulted := rfl
@[simp] theorem pushInput_ret (bytes : List Byte) : (pushInput bytes s).ret = s.ret := rfl
@[simp] theorem pushInput_inputs (bytes : List Byte) : (pushInput bytes s).inputs = bytes ++ s.inputs := rfl
@[simp] theorem pushInput_followers (bytes : List Byte) : (pushInput bytes s).followers = s.followers := rfl
@[simp] theorem pushInput_draws (bytes : List Byte) : (pushInput bytes s).draws = s.draws := rfl

/-! ## resetRegisters -/

@[simp] theorem resetRegisters_params : (resetRegisters s).params = s.params := rfl
@[simp] theorem resetRegisters_state : (resetRegisters s).state = .named .idle := rfl
@[simp] theorem resetRegisters_msg : (resetRegisters s).msg = Vector.replicate 16 0 := rfl
@[simp] theorem resetRegisters_len : (resetRegisters s).len = 0 := rfl
@[simp] theorem resetRegisters_byte : (resetRegisters s).byte = 0 := rfl
@[simp] theorem resetRegisters_bit : (resetRegisters s).bit = 0 := rfl
@[simp] theorem resetRegisters_resends : (resetRegisters s).resends = 0 := rfl
@[simp] theorem resetRegisters_ack : (resetRegisters s).ack = false := rfl
@[simp] theorem resetRegisters_clkBasis : (resetRegisters s).clkBasis = (Config.resetBasis s.params.basisW s.draws).toNat := rfl
@[simp] theorem resetRegisters_inited : (resetRegisters s).inited = false := rfl
@[simp] theorem resetRegisters_lineOut : (resetRegisters s).lineOut = true := rfl
@[simp] theorem resetRegisters_tmrArmed : (resetRegisters s).tmrArmed = false := rfl
@[simp] theorem resetRegisters_tmrCnt : (resetRegisters s).tmrCnt = 0 := rfl
@[simp] theorem resetRegisters_trig : (resetRegisters s).trig = false := rfl
@[simp] theorem resetRegisters_pending : (resetRegisters s).pending = 0 := rfl
@[simp] theorem resetRegisters_rom : (resetRegisters s).rom = s.rom := rfl
@[simp] theorem resetRegisters_faulted : (resetRegisters s).faulted = false := rfl
@[simp] theorem resetRegisters_ret : (resetRegisters s).ret = s.ret := rfl
@[simp] theorem resetRegisters_inputs : (resetRegisters s).inputs = s.inputs := rfl
@[simp] theorem resetRegisters_followers : (resetRegisters s).followers = s.followers := rfl
@[simp] theorem resetRegisters_draws : (resetRegisters s).draws = s.draws + 1 := rfl

end Sys2Proof.Machine
end

