-- ==== Sys2Proof/Laws/Ops.lean ====
section
/-!
SUPPORT. One lemma for each shared operation that says everything it can do: its result, and, where it can stop, when
it completes.
-/
namespace Sys2Proof.Machine

/-- A count the timer of `s` takes as it is: at least 1 and of its width (44_timer_adapter.md R251). -/
abbrev Fits (s : State) (n : Nat) : Prop := 1 ≤ n ∧ n < 2 ^ s.params.timerW

theorem fits_iff (s : State) (n : Nat) : fits s.params.timerW n = true ↔ Fits s n := by
  simp [fits]

/-! ## Outcomes -/

@[simp] theorem andThen_of_next (s : State) (f : State → Out) : andThen (.next s) f = f s := rfl
@[simp] theorem andThen_of_fault (r : Fault) (f : State → Out) : andThen (.fault r) f = .fault r := rfl
@[simp] theorem andThen_of_refused (r : Refusal) (f : State → Out) : andThen (.refused r) f = .refused r := rfl

theorem andThen_next {o : Out} {f : State → Out} {t : State} :
    andThen o f = .next t ↔ ∃ s, o = .next s ∧ f s = .next t := by
  cases o <;> simp

theorem returning_next {r : Ret} {s t : State} : returning r s = .next t ↔ t = { s with ret := r } := by
  simp [returning, eq_comm]

/-- An operation that runs completes exactly when the block is not faulted and what it does completes. -/
theorem whenLive_next {s t : State} {f : State → Out} :
    whenLive s f = .next t ↔ s.faulted = false ∧ f { s with ret := .nothing } = .next t := by
  unfold whenLive
  cases s.faulted <;> simp

theorem whenLive_live {s : State} (h : s.faulted = false) (f : State → Out) :
    whenLive s f = f { s with ret := .nothing } := by
  simp [whenLive, h]

theorem whenLive_faulted {s : State} (h : s.faulted = true) (f : State → Out) :
    whenLive s f = .fault .illegalState := by
  simp [whenLive, h]

/-! ## The timer -/

/-- The count a timer is loaded with is the count given, where that fits. -/
theorem countFor_eq {n : Nat} {s : State} (h : n < 2 ^ s.params.timerW) : countFor n s = n := if_pos h

/-- The count depends on the state's parameters alone. -/
theorem countFor_congr {n : Nat} {s t : State} (h : t.params = s.params) : countFor n t = countFor n s := by
  rw [countFor, countFor, h]

/-- Whatever it is armed with, the timer holds a count of its width. -/
theorem countFor_lt (n : Nat) (s : State) : countFor n s < 2 ^ s.params.timerW := by
  unfold countFor
  split
  · assumption
  · exact BitVec.isLt _

/-- Arming completes exactly when the count is not 0, and it loads the timer. -/
theorem armTimer_next {n : Nat} {s t : State} :
    armTimer n s = .next t ↔ 1 ≤ n ∧ t = loadTimer (countFor n s) s := by
  unfold armTimer
  split
  · simp; omega
  · simp [eq_comm]; omega

theorem armTimer_pos {n : Nat} (h : 1 ≤ n) (s : State) : armTimer n s = .next (loadTimer (countFor n s) s) :=
  armTimer_next.mpr ⟨h, rfl⟩

theorem armTimer_zero (s : State) : armTimer 0 s = .refused .armZero := rfl

theorem driveFor_next {v : Bit} {n : Nat} {s t : State} :
    driveFor v n s = .next t ↔ 1 ≤ n ∧ t = loadTimer (countFor n s) (setLine v s) :=
  armTimer_next

theorem driveFor_pos {n : Nat} (h : 1 ≤ n) (v : Bit) (s : State) :
    driveFor v n s = .next (loadTimer (countFor n s) (setLine v s)) :=
  armTimer_pos h _

/-! ## The cursor -/

/-- `CUR.ADV` inside a byte moves to the next bit. -/
theorem advanceCursor_bit {s : State} (h : s.bit ≠ 7) : advanceCursor s = .next { s with bit := s.bit + 1 } := by
  rw [advanceCursor, if_neg h]

/-- `CUR.ADV` at the end of a byte moves to the next byte. -/
theorem advanceCursor_byte {s : State} (h : s.bit = 7) (hb : s.byte.val < 16) :
    advanceCursor s = .next { s with byte := s.byte + 1, bit := 0 } := by
  rw [advanceCursor, if_pos h, nextByte, if_pos hb]

/-- `CUR.ADV` past byte 16 is refused. -/
theorem advanceCursor_end {s : State} (h : s.bit = 7) (hb : s.byte = 16) :
    advanceCursor s = .refused .byteRange := by
  rw [advanceCursor, if_pos h, nextByte, if_neg (by simp [hb])]

/-- Where `CUR.ADV` completes it writes the cursor and nothing else. -/
theorem advanceCursor_next {s t : State} (h : advanceCursor s = .next t) :
    t = { s with byte := t.byte, bit := t.bit } := by
  unfold advanceCursor nextByte at h
  split at h
  · split at h <;> cases h
    rfl
  · cases h; rfl

/-! ## The message copy -/

/-- After the copy, a position the bytes cover holds its byte and every other one keeps its own. -/
theorem copyBytes_get (bytes : List Byte) (i : Nat) (m : Vector Byte 16) (j : Nat) (hj : j < 16) :
    (copyBytes bytes i m)[j] =
      if h : i ≤ j ∧ j < i + bytes.length then bytes[j - i]'(by omega) else m[j] := by
  induction bytes generalizing i m with
  | nil => simp [copyBytes]
  | cons b bs ih =>
    rw [copyBytes, ih]
    rcases Nat.lt_trichotomy i j with h | h | h
    · have e : j - i = j - (i + 1) + 1 := by omega
      by_cases hb : j < i + 1 + bs.length
      · rw [dif_pos ⟨by omega, hb⟩, dif_pos ⟨by omega, by simp; omega⟩]
        simp [e]
      · rw [dif_neg (by omega), dif_neg (by simp; omega), Vector.getElem_setIfInBounds_ne hj (by omega)]
    · subst h
      rw [dif_neg (by omega), dif_pos ⟨by omega, by simp⟩]
      simp
    · rw [dif_neg (by omega), dif_neg (by omega), Vector.getElem_setIfInBounds_ne hj (by omega)]

/-! ## Draws -/

/-- A line read takes the next level laid down, or a free value; it changes nothing but where the levels come
from. -/
theorem drawFollower_snd (s : State) :
    (drawFollower s).2 =
      { s with followers := s.followers.tail, draws := if s.followers = [] then s.draws + 1 else s.draws } := by
  cases hf : s.followers <;> simp [drawFollower, hf]

theorem lineGet_fst (s : State) : (lineGet s).1 = busLevel s.lineOut (drawFollower s).1 := rfl

theorem lineGet_snd (s : State) : (lineGet s).2 = (drawFollower s).2 := rfl

theorem sampleAck_eq (s : State) :
    sampleAck s =
      { s with
        ack := ackOf (destNibble s) (lineGet s).1, followers := s.followers.tail
        draws := if s.followers = [] then s.draws + 1 else s.draws } := by
  simp [sampleAck, setAck, lineGet_snd, drawFollower_snd]

/-! ## Entering a state -/

/-- Entering a state writes `STATE` and, of the other registers, only the cursor, `ACK`, the line and the timer; the
levels of the followers may be drawn. -/
theorem enter_next {f : Fsm} {s t : State} (h : enter f s = .next t) :
    t.state = .named f ∧ t.msg = s.msg ∧ t.len = s.len ∧ t.resends = s.resends ∧ t.clkBasis = s.clkBasis ∧
      t.inited = s.inited ∧ t.trig = s.trig ∧ t.pending = s.pending ∧ t.rom = s.rom ∧ t.faulted = s.faulted ∧
      t.ret = s.ret ∧ t.inputs = s.inputs ∧ t.params = s.params ∧
      (s.tmrCnt < 2 ^ s.params.timerW → t.tmrCnt < 2 ^ s.params.timerW) := by
  cases f <;>
    simp only [enter, enterIdle, enterFreeTime, enterStartLow, enterStartHigh, enterHeaderInitLow,
      enterHeaderInitHigh, enterHeaderDestLow, enterHeaderDestHigh, enterEomLow, enterEomHigh, enterAckLow,
      enterAckHigh, enterAckVerify, enterDataLow, enterDataHigh, driveBitLow, driveBitHigh, driveFor_next,
      armTimer_next, Host.Outcome.next.injEq] at h
  case idle => subst h; simp
  case ackVerify => obtain ⟨-, rfl⟩ := h; simp [sampleAck_eq]; exact fun _ => countFor_lt _ _
  all_goals obtain ⟨-, rfl⟩ := h; simp; exact fun _ => countFor_lt _ _

/-! ## The handlers of the two events -/

/-- START disarms the trigger, then starts the transfer, does nothing more, or raises the fault. -/
theorem exec_start {s : State} (h : s.faulted = false) (ht : s.trig = true) :
    exec .start s =
      match s.state with
      | .named f =>
        if f = .idle ∧ s.len ≠ 0 then
          enter .freeTime { s with trig := false, resends := 0, byte := 0, bit := 0, ret := .nothing }
        else .next { s with trig := false, ret := .nothing }
      | .reserved => .next { s with trig := false, faulted := true, ret := .nothing } := by
  obtain ⟨_, f, _, _, _, _, _, _, _, _, _, _, _, _, _, _, _, _, _, _⟩ := s
  subst h ht
  cases f <;> rfl

/-- An expiry spends the timer, then takes the transition of the state or raises the fault. -/
theorem expire_eq (s : State) :
    expire s =
      match s.state with
      | .named f => timeout f (stopTimer s)
      | .reserved => .next (raiseIllegalState (stopTimer s)) := rfl

theorem expire_named {s : State} {f : Fsm} (h : s.state = .named f) : expire s = timeout f (stopTimer s) := by
  rw [expire_eq, h]

theorem expire_reserved {s : State} (h : s.state = .reserved) : expire s = .next (raiseIllegalState (stopTimer s)) := by
  rw [expire_eq, h]

end Sys2Proof.Machine
end

