-- ==== Sys2Proof/Laws/Sound.lean ====
section
/-!
SUPPORT. Entering a state from a transfer in progress completes and leaves a sound state.
-/
namespace Sys2Proof.Machine

/-- What an admitted basis guarantees: every duration the FSM arms fits the timer (40_timing_table.md R147). -/
theorem admitted_durations {s : State} (h : admitted s.params s.rom s.clkBasis = true) :
    Fits s (tStartLow s) ∧ Fits s (tStartHigh s) ∧ Fits s (tZeroLow s) ∧ Fits s (tZeroHigh s) ∧ Fits s (tOneLow s) ∧
      Fits s (tOneHigh s) ∧ Fits s (tFreeNi s) ∧ Fits s (tFreeRs s) ∧ Fits s (ackHighTicks s) ∧
      Fits s (ackVerifyTicks s) := by
  simp only [admitted, Bool.and_eq_true, fits_iff, decide_eq_true_eq] at h
  obtain ⟨⟨⟨⟨⟨⟨⟨⟨⟨⟨⟨⟨⟨⟨⟨-, h0⟩, h1⟩, h2⟩, h3⟩, h4⟩, h5⟩, h6⟩, h7⟩, h8⟩, h9⟩, h10⟩, h11⟩, -⟩, -⟩, -⟩ := h
  refine ⟨h0, h1, h2, h3, h4, h5, h6, h7, ?_, ?_⟩
  · rw [ackHighTicks, subTicks, if_pos (by exact Nat.le_of_lt h8)]
    exact h9
  · rw [ackVerifyTicks, subTicks, if_pos (by exact Nat.le_of_lt h10)]
    exact h11

/-- A transfer in progress, whatever the state: the part of `Sound` that no entry changes. -/
structure Running (s : State) : Prop where
  live : s.faulted = false
  hasMessage : 1 ≤ s.len.val
  untriggered : s.trig = false
  inited : s.inited = true
  basis : admitted s.params s.rom s.clkBasis = true
  widths : WidthsHold s

/-- Where the cursor may stand when `f` is entered (10_state.md R40, item 6). -/
def Place (f : Fsm) (s : State) : Prop :=
  match f with
  | .idle | .startLow => True
  | .freeTime | .startHigh => s.byte = 0 ∧ s.bit = 0
  | .headerInitLow | .headerInitHigh => s.byte = 0 ∧ s.bit.toNat ≤ 3
  | .headerDestLow | .headerDestHigh => s.byte = 0 ∧ 4 ≤ s.bit.toNat
  | .dataLow | .dataHigh => 1 ≤ s.byte.val ∧ s.byte.val < s.len.val
  | .eomLow | .eomHigh | .ackLow | .ackHigh => s.bit = 0 ∧ 1 ≤ s.byte.val ∧ s.byte.val ≤ s.len.val
  | .ackVerify => s.bit = 0 ∧ 1 ≤ s.byte.val ∧ s.byte.val ≤ s.len.val ∧ s.lineOut = true

theorem fits_low {s : State} (h : Running s) (b : Bit) : Fits s (lowTicks b s) := by
  have a := admitted_durations h.basis
  cases b
  · exact a.2.2.1
  · exact a.2.2.2.2.1

theorem fits_high {s : State} (h : Running s) (b : Bit) : Fits s (highTicks b s) := by
  have a := admitted_durations h.basis
  cases b
  · exact a.2.2.2.1
  · exact a.2.2.2.2.2.1

/-- The duration with which a state is entered, Idle's being none (30_encoding.md R91, last column). -/
def entryTicks (f : Fsm) (s : State) : Nat :=
  match f with
  | .idle => 0
  | .freeTime => if s.resends = 0 then tFreeNi s else tFreeRs s
  | .startLow => tStartLow s
  | .startHigh => tStartHigh s
  | .headerInitLow | .headerDestLow | .dataLow => lowTicks (curBit s) s
  | .headerInitHigh | .headerDestHigh | .dataHigh => highTicks (curBit s) s
  | .eomLow => lowTicks (curEom s) s
  | .eomHigh => highTicks (curEom s) s
  | .ackLow => tOneLow s
  | .ackHigh => ackHighTicks s
  | .ackVerify => ackVerifyTicks s

theorem entryTicks_fits {s : State} (h : Running s) {f : Fsm} (hf : f ≠ .idle) : Fits s (entryTicks f s) := by
  have a := admitted_durations h.basis
  obtain ⟨a0, a1, a2, a3, a4, a5, a6, a7, a8, a9⟩ := a
  cases f <;> simp only [entryTicks]
  case idle => exact absurd rfl hf
  case freeTime => split <;> assumption
  all_goals first | exact fits_low h _ | exact fits_high h _ | assumption

/-- What an entry does before it arms the timer: the cursor of StartLow, the line, the sample of AckVerify. -/
def prepare (f : Fsm) (s : State) : State :=
  match f with
  | .idle => resetCursor s
  | .startLow => setLine false (resetCursor s)
  | .headerInitLow | .headerDestLow | .dataLow | .eomLow | .ackLow => setLine false s
  | .freeTime | .startHigh | .headerInitHigh | .headerDestHigh | .dataHigh | .eomHigh | .ackHigh => setLine true s
  | .ackVerify => sampleAck s

/-- The state an entry leaves (42_fsm_entry.md R180 to R196). -/
def entered (f : Fsm) (s : State) : State :=
  if f = .idle then prepare f (setState f s)
  else loadTimer (countFor (entryTicks f s) s) (prepare f (setState f s))

/-- Entering a state completes when its duration is not 0, and what it leaves. -/
theorem enter_eq {f : Fsm} {s : State} (h : f ≠ .idle → 1 ≤ entryTicks f s) : enter f s = .next (entered f s) := by
  cases f
  case idle => rfl
  case ackVerify =>
    refine (armTimer_pos (h (by decide)) _).trans ?_
    rw [countFor_congr (show (sampleAck (setState .ackVerify s)).params = s.params by simp [sampleAck_eq])]
    rfl
  all_goals exact driveFor_pos (h (by decide)) _ _

/-- Entering a state with the duration 0 is refused. -/
theorem enter_zero {f : Fsm} {s : State} (hf : f ≠ .idle) (h : entryTicks f s = 0) : enter f s = .refused .armZero := by
  cases f
  case idle => exact absurd rfl hf
  all_goals exact if_pos h

/-- Entering a state other than Idle while a transfer is in progress and the cursor is in place leaves a sound
state. -/
theorem sound_entered {f : Fsm} {s : State} (h : Running s) (hp : Place f s) (hf : f ≠ .idle) : Sound (entered f s) := by
  obtain ⟨h1, h2, h4, h5, h6, w1, w2, -, w4⟩ := h
  have hc := countFor_lt (entryTicks f s) s
  have hl := s.len.isLt
  rw [entered, if_neg hf]
  generalize countFor (entryTicks f s) s = c at hc
  cases f
  case idle => exact absurd rfl hf
  all_goals
    simp [Place] at hp
    simp [prepare, sampleAck_eq, Sound, StateIsNamed, BusyHasMessage, IdleAtRest, IdleMessageIsTriggered,
      TriggerMeansWaiting, RegistersInRange, WidthsHold, CursorInPlace, LineFollowsState, MessageMeansInit,
      TimerFollowsState, BasisIsAdmitted, InState, h1, h4, h5, h6, hp, hc, w1, w2, w4]
    omega

end Sys2Proof.Machine
end

