-- ==== Sys2Proof/Laws/Expiry.lean ====
section
/-!
SUPPORT. What one expiry does to a transfer in progress.
-/
namespace Sys2Proof.Machine

/-- Where the cursor stands, and the line where it matters, while the block is in `f` (10_state.md R40, items 6 and 7). -/
def Resident (f : Fsm) (s : State) : Prop :=
  match f with
  | .startLow => s.byte = 0 ∧ s.bit = 0
  | .ackHigh => Place .ackVerify s
  | f => Place f s

/-- `s` as the transition finds it: the timer spent, nothing returned (44_timer_adapter.md R253). -/
def spent (s : State) : State := stopTimer { s with ret := .nothing }

/-- A sound state outside Idle is a transfer in progress with the cursor in place. -/
theorem resident_of_sound {s : State} {f : Fsm} (h : Sound s) (hf : s.state = .named f) (hi : f ≠ .idle) :
    Running (spent s) ∧ Resident f (spent s) := by
  obtain ⟨⟨h0, h0'⟩, h1, h2, h3, h4, ⟨h5a, w1, w2, w3, w4⟩, h6, h7, h8, h9, h10⟩ := h
  have hne : ¬ InState .idle s := by simp [InState, hf, hi]
  have ht : s.trig = false := by
    by_contra hc
    exact hne (h4 (by simpa using hc)).1
  refine ⟨⟨h0', h1 hne, ht, h8 (h1 hne), h10 (h8 (h1 hne)), w1, w2, Nat.two_pow_pos _, w4⟩, ?_⟩
  obtain ⟨c1, c2, c3, c4, c5⟩ := h6
  simp only [InState, hf, StateReg.named.injEq] at c1 c2 c3 c4 c5 h7
  have hl : f = .ackHigh ∨ f = .ackVerify → s.lineOut = true := by
    intro hh
    by_contra hc
    have := h7.mp (by simpa using hc)
    rcases hh with rfl | rfl <;> simp [InState, hf] at this
  clear h7 h9 h10
  cases f <;> simp [Resident, Place, spent] <;> simp_all

@[simp] theorem entered_state (f : Fsm) (s : State) : (entered f s).state = .named f := by
  cases f <;> simp [entered, prepare, sampleAck_eq]
@[simp] theorem entered_len (f : Fsm) (s : State) : (entered f s).len = s.len := by
  cases f <;> simp [entered, prepare, sampleAck_eq]
@[simp] theorem entered_resends (f : Fsm) (s : State) : (entered f s).resends = s.resends := by
  cases f <;> simp [entered, prepare, sampleAck_eq]
@[simp] theorem entered_pending (f : Fsm) (s : State) : (entered f s).pending = s.pending := by
  cases f <;> simp [entered, prepare, sampleAck_eq]
@[simp] theorem entered_msg (f : Fsm) (s : State) : (entered f s).msg = s.msg := by
  cases f <;> simp [entered, prepare, sampleAck_eq]
theorem entered_cursor {f : Fsm} (h1 : f ≠ .idle) (h2 : f ≠ .startLow) (s : State) :
    (entered f s).byte = s.byte ∧ (entered f s).bit = s.bit := by
  cases f <;> simp_all [entered, prepare, sampleAck_eq]
theorem entered_followers {f : Fsm} (h : f ≠ .ackVerify) (s : State) :
    (entered f s).followers = s.followers ∧ (entered f s).ack = s.ack := by
  cases f <;> simp_all [entered, prepare]

/-- Entering a state other than Idle completes while a transfer is in progress. -/
theorem enter_running {s : State} {g : Fsm} (h : Running s) (hg : g ≠ .idle) :
    enter g s = .next (entered g s) := enter_eq fun _ => (entryTicks_fits h hg).1

/-- Moving the cursor leaves a transfer in progress. -/
theorem running_cursor {s : State} (h : Running s) (b : Fin 17) (k : BitVec 3) :
    Running { s with byte := b, bit := k } := ⟨h.1, h.2, h.3, h.4, h.5, h.6⟩

theorem bit_add {b : BitVec 3} (h : b ≠ 7) : (b + 1#3).toNat = b.toNat + 1 := by
  have : b.toNat ≠ 7 := fun hh => h (BitVec.eq_of_toNat_eq hh)
  have := b.isLt
  rw [BitVec.toNat_add]; simp; omega
theorem byte_add {b : Fin 17} (h : b.val < 16) : (b + 1).val = b.val + 1 := by
  rw [Fin.val_add]; simp; omega
theorem resends_add {n : Fin 6} (h : n.val < 5) : (n + 1).val = n.val + 1 := by
  rw [Fin.val_add]; simp; omega

/-- Everything the transition of `f` can do to a transfer in progress `s`: go on to a state `g` of the same frame with
one timeout less to go, start the frame again, or end the transfer (43_fsm_transition.md R212 to R226). -/
inductive Expiry (f : Fsm) (s : State) : Out → Prop where
  /-- the next state `g` of the frame, entered from `s1` -/
  | cell (g : Fsm) (s1 : State) (hg : g ≠ .idle) (hr : Running s1) (hp : Place g s1)
      (hl : s1.len = s.len) (hres : s1.resends = s.resends) (hpend : s1.pending = s.pending)
      (hfo : s1.followers = s.followers) (hack : s1.ack = s.ack) (hmsg : s1.msg = s.msg)
      (hfl : frameLeft (entered g s1) + 1 = frameLeft { s with state := .named f })
      (hk : f = .ackVerify → s.ack = true) (hgf : g = .ackVerify → f = .ackHigh ∧ s1 = s)
      (hfg : f = .ackHigh → g = .ackVerify) (hge : g ≠ .freeTime) :
      Expiry f s (.next (entered g s1))
  /-- the frame again, after its free time -/
  | resend (hf : f = .ackVerify) (ha : s.ack = false) (hr : s.resends.val < 5)
      (hrun : Running (resetCursor (setResends (s.resends + 1) s))) :
      Expiry f s (.next (entered .freeTime (resetCursor (setResends (s.resends + 1) s))))
  /-- the end of an acknowledged transfer -/
  | ok (hf : f = .ackVerify) (ha : s.ack = true) (hb : s.byte = s.len) :
      Expiry f s (.next (orPending (flagWord s.params .sendOk) (entered .idle (clearTransfer s))))
  /-- the end of a transfer that used up its resends -/
  | failed (hf : f = .ackVerify) (ha : s.ack = false) (hr : s.resends.val = 5) :
      Expiry f s (.next (orPending (flagWord s.params .sendFailed) (entered .idle (clearTransfer s))))

/-- A transition to the state `g`, which may move the cursor first. -/
theorem expiry_cell {s s1 : State} {f g : Fsm} (hr : Running s1) (hp : Place g s1)
    (hc : g ≠ .idle ∧ f ≠ .ackVerify ∧ g ≠ .freeTime ∧ (g = .ackVerify ↔ f = .ackHigh))
    (e : s1 = { s with byte := s1.byte, bit := s1.bit }) (hs : f = .ackHigh → s1 = s)
    (hfl : frameLeft (entered g s1) + 1 = frameLeft { s with state := .named f }) : Expiry f s (enter g s1) := by
  obtain ⟨h1, h2, h3, h4⟩ := hc
  rw [enter_running hr h1]
  refine .cell g s1 h1 hr hp ?_ ?_ ?_ ?_ ?_ ?_ hfl (fun h => absurd h h2) (fun h => ⟨h4.mp h, hs (h4.mp h)⟩) h4.mpr h3
  all_goals rw [e]

/-- Every timeout transition completes while a transfer is in progress, in one of these ways. -/
theorem timeout_expiry {s : State} {f : Fsm} (hr : Running s) (hp : Resident f s) (hf : f ≠ .idle) :
    Expiry f s (timeout f s) := by
  have hr' := hr
  obtain ⟨h1, h2, h4, h5, h6, h7⟩ := hr'
  have hlen := s.len.isLt
  have hbit := s.bit.isLt
  cases f
  case idle => exact absurd rfl hf
  case freeTime =>
    refine expiry_cell (f := .freeTime) (g := .startLow) hr trivial (by decide) rfl (fun _ => rfl) ?_
    simp [frameLeft, frameTimeouts]; omega
  case startLow =>
    refine expiry_cell (f := .startLow) (g := .startHigh) hr hp (by decide) rfl (fun _ => rfl) ?_
    simp [frameLeft]; omega
  case startHigh =>
    refine expiry_cell (f := .startHigh) (g := .headerInitLow) hr ⟨hp.1, by simp [hp.2]⟩ (by decide) rfl (fun _ => rfl) ?_
    simp [frameLeft, entered_cursor]; rw [hp.1, hp.2]; simp; omega
  case headerInitLow =>
    refine expiry_cell (f := .headerInitLow) (g := .headerInitHigh) hr hp (by decide) rfl (fun _ => rfl) ?_
    simp [frameLeft, entered_cursor]; omega
  case headerDestLow =>
    refine expiry_cell (f := .headerDestLow) (g := .headerDestHigh) hr hp (by decide) rfl (fun _ => rfl) ?_
    simp [frameLeft, entered_cursor]; omega
  case dataLow =>
    refine expiry_cell (f := .dataLow) (g := .dataHigh) hr hp (by decide) rfl (fun _ => rfl) ?_
    simp [frameLeft, entered_cursor]; omega
  case eomLow =>
    refine expiry_cell (f := .eomLow) (g := .eomHigh) hr hp (by decide) rfl (fun _ => rfl) ?_
    simp [frameLeft, entered_cursor]; omega
  case eomHigh =>
    refine expiry_cell (f := .eomHigh) (g := .ackLow) hr hp (by decide) rfl (fun _ => rfl) ?_
    simp [frameLeft, entered_cursor]; omega
  case ackLow =>
    refine expiry_cell (f := .ackLow) (g := .ackHigh) hr hp (by decide) rfl (fun _ => rfl) ?_
    simp [frameLeft, entered_cursor]; omega
  case ackHigh =>
    refine expiry_cell (f := .ackHigh) (g := .ackVerify) hr hp (by decide) rfl (fun _ => rfl) ?_
    simp [frameLeft, entered_cursor]; omega
  case headerInitHigh =>
    obtain ⟨hb, hk⟩ := hp
    have h7 : s.bit ≠ 7 := fun hh => by simp [hh] at hk
    have hn := bit_add h7
    have hrr := running_cursor hr s.byte (s.bit + 1)
    show Expiry _ _ (andThen (advanceCursor s) _)
    rw [advanceCursor_bit h7, andThen_of_next]
    split
    · rename_i h4
      have : (s.bit + 1#3).toNat = 4 := congrArg BitVec.toNat h4
      refine expiry_cell hrr ⟨hb, by show 4 ≤ (s.bit + 1#3).toNat; omega⟩ (by decide) rfl (by intro h; cases h) ?_
      simp [frameLeft, entered_cursor, hn]; omega
    · rename_i h4
      have : (s.bit + 1#3).toNat ≠ 4 := fun hh => h4 (BitVec.eq_of_toNat_eq hh)
      refine expiry_cell hrr ⟨hb, by show (s.bit + 1#3).toNat ≤ 3; omega⟩ (by decide) rfl (by intro h; cases h) ?_
      simp [frameLeft, entered_cursor, hn]; omega
  case headerDestHigh =>
    obtain ⟨hb, hk⟩ := hp
    show Expiry _ _ (andThen (advanceCursor s) _)
    by_cases h7 : s.bit = 7
    · rw [advanceCursor_byte h7 (by rw [hb]; decide), andThen_of_next, if_pos (by simp [hb])]
      have hpl : Place .eomLow { s with byte := s.byte + 1, bit := 0 } := by
        simp [Place, hb]; omega
      refine expiry_cell (running_cursor hr _ _) hpl (by decide) rfl (by intro h; cases h) ?_
      simp [frameLeft, entered_cursor, hb, h7]; omega
    · have hn := bit_add h7
      rw [advanceCursor_bit h7, andThen_of_next, if_neg (by simp [hb])]
      have hpl : Place .headerDestLow { s with bit := s.bit + 1 } := ⟨hb, by show 4 ≤ (s.bit + 1#3).toNat; omega⟩
      refine expiry_cell (running_cursor hr s.byte _) hpl (by decide) rfl (by intro h; cases h) ?_
      simp [frameLeft, entered_cursor, hn]; omega
  case dataHigh =>
    obtain ⟨hb, hk⟩ := hp
    show Expiry _ _ (andThen (advanceCursor s) _)
    by_cases h7 : s.bit = 7
    · have hbn := byte_add (b := s.byte) (by omega)
      rw [advanceCursor_byte h7 (by omega), andThen_of_next, if_pos rfl]
      have hpl : Place .eomLow { s with byte := s.byte + 1, bit := 0 } :=
        ⟨rfl, by show 1 ≤ (s.byte + 1).val; omega, by show (s.byte + 1).val ≤ s.len.val; omega⟩
      refine expiry_cell (running_cursor hr _ _) hpl (by decide) rfl (by intro h; cases h) ?_
      simp [frameLeft, entered_cursor, hbn, h7]; omega
    · have hn := bit_add h7
      have h0 : s.bit + 1 ≠ 0 := fun hh => by
        have h2 : (s.bit + 1#3).toNat = 0 := congrArg BitVec.toNat hh
        omega
      rw [advanceCursor_bit h7, andThen_of_next, if_neg h0]
      have hpl : Place .dataLow { s with bit := s.bit + 1 } := ⟨hb, hk⟩
      refine expiry_cell (running_cursor hr s.byte _) hpl (by decide) rfl (by intro h; cases h) ?_
      simp [frameLeft, entered_cursor, hn]; omega
  case ackVerify =>
    obtain ⟨hb0, hb1, hb2, hl⟩ := hp
    show Expiry _ _ (timeoutAckVerify s)
    unfold timeoutAckVerify
    split
    · rename_i ha
      split
      · rename_i he
        have he' : s.bit = 0 ∧ s.byte = s.len := of_decide_eq_true he
        exact .ok rfl ha he'.2
      · rename_i he
        have he' : ¬ (s.bit = 0 ∧ s.byte = s.len) := of_decide_eq_false (by rw [← Bool.not_eq_true]; exact he)
        have : s.byte.val ≠ s.len.val := fun hh => he' ⟨hb0, Fin.ext hh⟩
        have hpl : Place .dataLow s := ⟨hb1, by omega⟩
        rw [enter_running hr (by decide)]
        refine .cell _ _ (by decide) hr hpl rfl rfl rfl rfl rfl rfl ?_ (fun _ => ha) (by intro h; cases h)
          (by intro h; cases h) (by decide)
        simp [frameLeft, entered_cursor, hb0]; omega
    · rename_i ha
      have ha : s.ack = false := by simpa using ha
      split
      · rename_i hlt
        have hrun : Running (resetCursor (setResends (s.resends + 1) s)) := ⟨h1, h2, h4, h5, h6, h7⟩
        rw [enter_running hrun (g := .freeTime) (by decide)]
        exact .resend rfl ha hlt hrun
      · rename_i hlt
        simp [Config.maxResends] at hlt
        have := s.resends.isLt
        exact .failed rfl ha (by omega)

end Sys2Proof.Machine
end

