-- ==== Sys2Proof/Laws/Kept.lean ====
section
/-!
SUPPORT. What each operation keeps, and how it may change the registers that have a range: the one lemma an argument
over all operations cites.
-/
namespace Sys2Proof.Machine

/-- What every operation but RESET, INIT, SEND, START and POLL keeps: the registers with other owners, and how it may
change `LEN`, `TMR_CNT`, `STATE` and `PENDING`. -/
structure Kept (s t : State) : Prop where
  params : t.params = s.params
  rom : t.rom = s.rom
  inputs : t.inputs = s.inputs
  msg : t.msg = s.msg
  basis : t.clkBasis = s.clkBasis
  inited : t.inited = s.inited
  trig : t.trig = s.trig
  len : t.len = s.len ∨ t.len = 0
  cnt : s.tmrCnt < 2 ^ s.params.timerW → t.tmrCnt < 2 ^ s.params.timerW
  st : t.state = s.state ∨ t.state ≠ .reserved
  pend : t.pending = s.pending ∨ ∃ f, t.pending = s.pending ||| flagWord s.params f

/-- A change of no other register than those named keeps them all. -/
theorem kept_of_eq {s t : State}
    (e : t = { s with
      byte := t.byte, bit := t.bit, ack := t.ack, lineOut := t.lineOut, tmrArmed := t.tmrArmed, tmrCnt := t.tmrCnt
      faulted := t.faulted, ret := t.ret, followers := t.followers, draws := t.draws })
    (h : s.tmrCnt < 2 ^ s.params.timerW → t.tmrCnt < 2 ^ s.params.timerW) : Kept s t := by
  rw [e]; exact ⟨rfl, rfl, rfl, rfl, rfl, rfl, rfl, .inl rfl, h, .inl rfl, .inl rfl⟩

theorem Kept.refl (s : State) : Kept s s := kept_of_eq rfl id

/-- Entering a state. -/
theorem enter_kept {f : Fsm} {s t : State} (h : enter f s = .next t) : Kept s t := by
  obtain ⟨a, b, c, -, e, f, g, h, i, -, -, l, p, q⟩ := enter_next h
  exact ⟨p, i, l, b, e, f, g, .inl c, q, .inr (by rw [a]; simp), .inl h⟩

/-- What is kept after a change of registers that are not among the kept ones. -/
theorem kept_of {s s1 t : State} (h : Kept s1 t)
    (e : s1.params = s.params ∧ s1.rom = s.rom ∧ s1.inputs = s.inputs ∧ s1.msg = s.msg ∧ s1.clkBasis = s.clkBasis ∧
      s1.inited = s.inited ∧ s1.trig = s.trig ∧ (s1.len = s.len ∨ s1.len = 0) ∧
      (s.tmrCnt < 2 ^ s.params.timerW → s1.tmrCnt < 2 ^ s.params.timerW) ∧ s1.state = s.state ∧
      s1.pending = s.pending) : Kept s t := by
  obtain ⟨p, a, b, c, d, e1, f, g, q, i, j⟩ := e
  refine ⟨h.params.trans p, h.rom.trans a, h.inputs.trans b, h.msg.trans c, h.basis.trans d, h.inited.trans e1,
    h.trig.trans f, ?_, fun x => p ▸ h.cnt (p.symm ▸ q x), i ▸ h.st, p ▸ j ▸ h.pend⟩
  rcases h.len with x | x
  · rw [x]; exact g
  · exact .inr x

/-- What is kept after `CUR.ADV`. -/
theorem advanceCursor_kept {s s1 t : State} (h1 : advanceCursor s = .next s1) (h : Kept s1 t) : Kept s t := by
  refine kept_of h ?_
  rw [advanceCursor_next h1]; exact ⟨rfl, rfl, rfl, rfl, rfl, rfl, rfl, .inl rfl, id, rfl, rfl⟩

/-- A timeout transition. -/
theorem timeout_kept {f : Fsm} {s t : State} (h : timeout f s = .next t) : Kept s t := by
  cases f
  case idle => cases h; exact .refl _
  case headerInitHigh =>
    simp only [timeout, timeoutHeaderInitHigh, andThen_next] at h
    obtain ⟨s1, h1, h⟩ := h
    refine advanceCursor_kept h1 ?_
    split at h <;> exact enter_kept h
  case headerDestHigh =>
    simp only [timeout, timeoutHeaderDestHigh, andThen_next] at h
    obtain ⟨s1, h1, h⟩ := h
    refine advanceCursor_kept h1 ?_
    split at h <;> exact enter_kept h
  case dataHigh =>
    simp only [timeout, timeoutDataHigh, andThen_next] at h
    obtain ⟨s1, h1, h⟩ := h
    refine advanceCursor_kept h1 ?_
    split at h <;> exact enter_kept h
  case ackVerify =>
    simp only [timeout, timeoutAckVerify] at h
    split at h
    · split at h
      · cases h
        exact ⟨rfl, rfl, rfl, rfl, rfl, rfl, rfl, .inr rfl, id, .inr (by simp), .inr ⟨.sendOk, rfl⟩⟩
      · exact enter_kept h
    · split at h
      · exact kept_of (enter_kept h) ⟨rfl, rfl, rfl, rfl, rfl, rfl, rfl, .inl rfl, id, rfl, rfl⟩
      · cases h
        exact ⟨rfl, rfl, rfl, rfl, rfl, rfl, rfl, .inr rfl, id, .inr (by simp), .inr ⟨.sendFailed, rfl⟩⟩
  all_goals
    simp only [timeout, timeoutFreeTime, timeoutStartLow, timeoutStartHigh, timeoutHeaderInitLow,
      timeoutHeaderDestLow, timeoutEomLow, timeoutEomHigh, timeoutAckLow, timeoutAckHigh, timeoutDataLow] at h
    exact enter_kept h

theorem armTimer_kept {n} {s t : State} (h : armTimer n s = .next t) : Kept s t := by
  obtain ⟨-, rfl⟩ := armTimer_next.mp h
  exact kept_of_eq rfl fun _ => countFor_lt _ _
theorem driveFor_kept {v n} {s t : State} (h : driveFor v n s = .next t) : Kept s t := by
  obtain ⟨-, rfl⟩ := driveFor_next.mp h
  exact kept_of_eq rfl fun _ => countFor_lt _ _
theorem stopTimer_kept {s t : State} (h : Kept (stopTimer s) t) : Kept s t :=
  kept_of h ⟨rfl, rfl, rfl, rfl, rfl, rfl, rfl, .inl rfl, fun _ => Nat.two_pow_pos _, rfl, rfl⟩
theorem sampleAck_kept (s : State) : Kept s (sampleAck s) := by
  rw [sampleAck_eq]; exact kept_of_eq rfl id

theorem ret_kept {s t : State} (h : Kept { s with ret := .nothing } t) : Kept s t :=
  kept_of h ⟨rfl, rfl, rfl, rfl, rfl, rfl, rfl, .inl rfl, id, rfl, rfl⟩

/-- What every operation but RESET, INIT, SEND, START and POLL keeps. -/
theorem exec_kept {i : Instr} {s t : State} (h : exec i s = .next t) (h1 : i ≠ .reset)
    (h2 : ∀ b, i ≠ .init b) (h3 : ∀ b, i ≠ .send b) (h4 : i ≠ .start) (h5 : i ≠ .poll) : Kept s t := by
  cases i
  case reset => exact absurd rfl h1
  case init b => exact absurd rfl (h2 b)
  case send b => exact absurd rfl (h3 b)
  case start => exact absurd rfl h4
  case poll => exact absurd rfl h5
  case tick =>
    simp only [exec, execTick, whenLive_next] at h
    obtain ⟨-, h⟩ := h
    refine ret_kept ?_
    split at h
    · split at h
      · rw [expire_eq] at h
        refine stopTimer_kept ?_
        split at h
        · exact timeout_kept h
        · cases h; exact kept_of_eq rfl id
      · cases h; exact kept_of_eq rfl fun hh => Nat.lt_of_le_of_lt (Nat.sub_le _ _) hh
    · cases h; exact .refl _
  case romRead a =>
    simp only [exec, execRomRead, whenLive_next] at h
    obtain ⟨-, h⟩ := h
    refine ret_kept ?_
    split at h
    · cases h; exact kept_of_eq rfl id
    · cases h
  case enterFreeTime =>
    simp only [exec, execEnterFreeTime, whenLive_next] at h
    obtain ⟨-, h⟩ := h
    exact ret_kept (driveFor_kept h)
  case enterStartLow =>
    simp only [exec, execEnterStartLow, whenLive_next] at h
    obtain ⟨-, h⟩ := h
    exact ret_kept (kept_of (driveFor_kept h) ⟨rfl, rfl, rfl, rfl, rfl, rfl, rfl, .inl rfl, id, rfl, rfl⟩)
  case enterAckVerify =>
    simp only [exec, execEnterAckVerify, whenLive_next] at h
    obtain ⟨-, h⟩ := h
    refine ret_kept (kept_of (armTimer_kept h) ?_)
    rw [sampleAck_eq]
    exact ⟨rfl, rfl, rfl, rfl, rfl, rfl, rfl, .inl rfl, id, rfl, rfl⟩
  case ackSample =>
    simp only [exec, execAckSample, whenLive_next] at h
    obtain ⟨-, h⟩ := h
    cases h
    exact ret_kept (sampleAck_kept _)
  case tmrArm n =>
    simp only [exec, execTmrArm, whenLive_next] at h
    obtain ⟨-, h⟩ := h
    exact ret_kept (armTimer_kept h)
  case evtPost f =>
    simp only [exec, execEvtPost, whenLive_next] at h
    obtain ⟨-, h⟩ := h
    cases h
    exact ⟨rfl, rfl, rfl, rfl, rfl, rfl, rfl, .inl rfl, id, .inl rfl, .inr ⟨f, rfl⟩⟩
  case lineGet =>
    simp only [exec, execLineGet, whenLive_next] at h
    obtain ⟨-, h⟩ := h
    refine ret_kept ?_
    have := returning_next.mp h
    rw [lineGet_snd, drawFollower_snd] at this
    subst this
    exact kept_of_eq rfl id
  case curAdv =>
    simp only [exec, execCurAdv, whenLive_next] at h
    obtain ⟨-, h⟩ := h
    exact ret_kept (advanceCursor_kept h (.refl _))
  all_goals
    simp only [exec, execTimeoutIdle, execTimeoutFreeTime, execTimeoutStartLow, execTimeoutStartHigh,
      execTimeoutHeaderInitLow, execTimeoutHeaderInitHigh, execTimeoutHeaderDestLow, execTimeoutHeaderDestHigh,
      execTimeoutEomLow, execTimeoutEomHigh, execTimeoutAckLow, execTimeoutAckHigh, execTimeoutAckVerify,
      execTimeoutDataLow, execTimeoutDataHigh, execEnterIdle, execEnterStartHigh, execEnterHeaderInitLow,
      execEnterHeaderInitHigh, execEnterHeaderDestLow, execEnterHeaderDestHigh, execEnterEomLow, execEnterEomHigh,
      execEnterAckLow, execEnterAckHigh, execEnterDataLow, execEnterDataHigh, execTStartLow, execTStartHigh,
      execTZeroLow, execTZeroHigh, execTOneLow, execTOneHigh, execTFreeNi, execTFreeRs, execTBitPeriod, execTSample,
      execTicks, execLowTicks, execHighTicks, execAckHighTicks, execAckVerifyTicks, execCurReset, execCurBit,
      execCurEom, execTmrStop, execLineSet, whenLive_next] at h
    obtain ⟨-, h⟩ := h
  case timeoutIdle => exact ret_kept (timeout_kept (f := .idle) h)
  case timeoutFreeTime => exact ret_kept (timeout_kept (f := .freeTime) h)
  case timeoutStartLow => exact ret_kept (timeout_kept (f := .startLow) h)
  case timeoutStartHigh => exact ret_kept (timeout_kept (f := .startHigh) h)
  case timeoutHeaderInitLow => exact ret_kept (timeout_kept (f := .headerInitLow) h)
  case timeoutHeaderInitHigh => exact ret_kept (timeout_kept (f := .headerInitHigh) h)
  case timeoutHeaderDestLow => exact ret_kept (timeout_kept (f := .headerDestLow) h)
  case timeoutHeaderDestHigh => exact ret_kept (timeout_kept (f := .headerDestHigh) h)
  case timeoutEomLow => exact ret_kept (timeout_kept (f := .eomLow) h)
  case timeoutEomHigh => exact ret_kept (timeout_kept (f := .eomHigh) h)
  case timeoutAckLow => exact ret_kept (timeout_kept (f := .ackLow) h)
  case timeoutAckHigh => exact ret_kept (timeout_kept (f := .ackHigh) h)
  case timeoutAckVerify => exact ret_kept (timeout_kept (f := .ackVerify) h)
  case timeoutDataLow => exact ret_kept (timeout_kept (f := .dataLow) h)
  case timeoutDataHigh => exact ret_kept (timeout_kept (f := .dataHigh) h)
  all_goals first
    | exact ret_kept (driveFor_kept h)
    | (cases h; exact kept_of_eq rfl id)
    | (cases h; exact kept_of_eq rfl fun _ => Nat.two_pow_pos _)

/-- START keeps the same registers, but for the trigger. -/
theorem start_kept {s t : State} (h : exec .start s = .next t) : Kept { s with trig := t.trig } t := by
  simp only [exec, execStart, whenLive_next] at h
  obtain ⟨-, h⟩ := h
  split at h
  · split at h
    · cases h; exact kept_of_eq rfl id
    · split at h
      · have k := kept_of (enter_kept h) (s := setTrig false { s with ret := .nothing })
          ⟨rfl, rfl, rfl, rfl, rfl, rfl, rfl, .inl rfl, id, rfl, rfl⟩
        exact ⟨k.params, k.rom, k.inputs, k.msg, k.basis, k.inited, rfl, k.len, k.cnt, k.st, k.pend⟩
      · cases h; exact kept_of_eq rfl id
  · cases h

/-- SEND writes nothing, or the message, its length and the trigger. -/
theorem send_next {s t : State} {bytes : List Byte} (h : exec (.send bytes) s = .next t) :
    t = { s with ret := t.ret } ∨
      bytes.length ≤ 16 ∧
        t = { s with msg := t.msg, len := Fin.ofNat 17 bytes.length, trig := true, ret := t.ret } := by
  simp only [exec, execSend, whenLive_next] at h
  obtain ⟨-, h⟩ := h
  split at h
  · cases h
  · split at h
    · cases h; exact .inl rfl
    · split at h
      · cases h; exact .inl rfl
      · rename_i hl
        cases h
        exact .inr ⟨by simp [Config.maxMsgLen] at hl; omega, rfl⟩

/-- INIT writes an admitted basis and `INITED`. -/
theorem init_next {s t : State} {b : Nat} (h : exec (.init b) s = .next t) :
    s.len = 0 ∧ admitted s.params s.rom b = true ∧ t = { s with clkBasis := b, inited := true, ret := t.ret } := by
  simp only [exec, execInit, whenLive_next] at h
  obtain ⟨-, h⟩ := h
  split at h
  · cases h
  · rename_i hp
    split at h
    · rename_i ha
      cases h; exact ⟨by simpa [inProgress] using hp, ha, rfl⟩
    · cases h

/-- POLL clears the flag word. -/
theorem poll_next {s t : State} (h : exec .poll s = .next t) : t = { s with pending := 0, ret := t.ret } := by
  simp only [exec, execPoll, whenLive_next] at h
  obtain ⟨-, h⟩ := h
  cases h; rfl

end Sys2Proof.Machine
end

