-- ==== Sys2Proof/Laws/PerInstr.lean ====
section
/-!
SUPPORT. What holds of every operation as syntax, one lemma for each constructor: how many bytes it takes.
-/
namespace Sys2Proof.Laws.Size

/-- A well-formed operation takes at least its first byte and at most the bytes of the longest SEND (log 2). -/
def Statement (i : Instr) : Prop :=
  i.wellFormed = true → 1 ≤ (encode i).length ∧ (encode i).length ≤ 2 + maxSendBytes

theorem reset : Statement .reset := fun _ => by decide

theorem init (basis : Nat) : Statement (.init basis) := fun _ => by simp [encode, operandBytes, wordBytes, maxSendBytes]

theorem send (bytes : List Byte) : Statement (.send bytes) := fun h => by
  have : bytes.length ≤ maxSendBytes := of_decide_eq_true h
  simp [encode, operandBytes]; omega

theorem poll : Statement .poll := fun _ => by decide

theorem start : Statement .start := fun _ => by decide

theorem tick : Statement .tick := fun _ => by decide

theorem timeoutIdle : Statement .timeoutIdle := fun _ => by decide

theorem timeoutFreeTime : Statement .timeoutFreeTime := fun _ => by decide

theorem timeoutStartLow : Statement .timeoutStartLow := fun _ => by decide

theorem timeoutStartHigh : Statement .timeoutStartHigh := fun _ => by decide

theorem timeoutHeaderInitLow : Statement .timeoutHeaderInitLow := fun _ => by decide

theorem timeoutHeaderInitHigh : Statement .timeoutHeaderInitHigh := fun _ => by decide

theorem timeoutHeaderDestLow : Statement .timeoutHeaderDestLow := fun _ => by decide

theorem timeoutHeaderDestHigh : Statement .timeoutHeaderDestHigh := fun _ => by decide

theorem timeoutEomLow : Statement .timeoutEomLow := fun _ => by decide

theorem timeoutEomHigh : Statement .timeoutEomHigh := fun _ => by decide

theorem timeoutAckLow : Statement .timeoutAckLow := fun _ => by decide

theorem timeoutAckHigh : Statement .timeoutAckHigh := fun _ => by decide

theorem timeoutAckVerify : Statement .timeoutAckVerify := fun _ => by decide

theorem timeoutDataLow : Statement .timeoutDataLow := fun _ => by decide

theorem timeoutDataHigh : Statement .timeoutDataHigh := fun _ => by decide

theorem enterIdle : Statement .enterIdle := fun _ => by decide

theorem enterFreeTime : Statement .enterFreeTime := fun _ => by decide

theorem enterStartLow : Statement .enterStartLow := fun _ => by decide

theorem enterStartHigh : Statement .enterStartHigh := fun _ => by decide

theorem enterHeaderInitLow : Statement .enterHeaderInitLow := fun _ => by decide

theorem enterHeaderInitHigh : Statement .enterHeaderInitHigh := fun _ => by decide

theorem enterHeaderDestLow : Statement .enterHeaderDestLow := fun _ => by decide

theorem enterHeaderDestHigh : Statement .enterHeaderDestHigh := fun _ => by decide

theorem enterEomLow : Statement .enterEomLow := fun _ => by decide

theorem enterEomHigh : Statement .enterEomHigh := fun _ => by decide

theorem enterAckLow : Statement .enterAckLow := fun _ => by decide

theorem enterAckHigh : Statement .enterAckHigh := fun _ => by decide

theorem enterAckVerify : Statement .enterAckVerify := fun _ => by decide

theorem enterDataLow : Statement .enterDataLow := fun _ => by decide

theorem enterDataHigh : Statement .enterDataHigh := fun _ => by decide

theorem tStartLow : Statement .tStartLow := fun _ => by decide

theorem tStartHigh : Statement .tStartHigh := fun _ => by decide

theorem tZeroLow : Statement .tZeroLow := fun _ => by decide

theorem tZeroHigh : Statement .tZeroHigh := fun _ => by decide

theorem tOneLow : Statement .tOneLow := fun _ => by decide

theorem tOneHigh : Statement .tOneHigh := fun _ => by decide

theorem tFreeNi : Statement .tFreeNi := fun _ => by decide

theorem tFreeRs : Statement .tFreeRs := fun _ => by decide

theorem tBitPeriod : Statement .tBitPeriod := fun _ => by decide

theorem tSample : Statement .tSample := fun _ => by decide

theorem ticks (us : Micros) : Statement (.ticks us) := fun _ => by simp [encode, operandBytes, microsBytes, maxSendBytes]

theorem lowTicks (bit : Bit) : Statement (.lowTicks bit) := fun _ => by simp [encode, operandBytes, maxSendBytes]

theorem highTicks (bit : Bit) : Statement (.highTicks bit) := fun _ => by simp [encode, operandBytes, maxSendBytes]

theorem ackHighTicks : Statement .ackHighTicks := fun _ => by decide

theorem ackVerifyTicks : Statement .ackVerifyTicks := fun _ => by decide

theorem curReset : Statement .curReset := fun _ => by decide

theorem curBit : Statement .curBit := fun _ => by decide

theorem curAdv : Statement .curAdv := fun _ => by decide

theorem curEom : Statement .curEom := fun _ => by decide

theorem tmrArm (n : Nat) : Statement (.tmrArm n) := fun _ => by simp [encode, operandBytes, wordBytes, maxSendBytes]

theorem tmrStop : Statement .tmrStop := fun _ => by decide

theorem lineSet (v : Bit) : Statement (.lineSet v) := fun _ => by simp [encode, operandBytes, maxSendBytes]

theorem lineGet : Statement .lineGet := fun _ => by decide

theorem ackSample : Statement .ackSample := fun _ => by decide

theorem evtPost (flag : Flag) : Statement (.evtPost flag) := fun _ => by simp [encode, operandBytes, maxSendBytes]

theorem romRead (a : BitVec 4) : Statement (.romRead a) := fun _ => by simp [encode, operandBytes, maxSendBytes]

end Sys2Proof.Laws.Size
end

