-- ==== Sys2Proof/Laws/Tick.lean ====
section
/-!
SUPPORT. What a TICK does in a sound state: it completes, it keeps the state sound, and it can go on without end.
-/
namespace Sys2Proof.Machine

/-- A change of no register the invariants read, but for the count within its width, keeps a state sound. -/
theorem sound_congr {s t : State} (h : Sound s)
    (e : t = { s with
      tmrCnt := t.tmrCnt, ret := t.ret, inputs := t.inputs, followers := t.followers, draws := t.draws, ack := t.ack })
    (hc : t.tmrCnt ≤ s.tmrCnt) : Sound t := by
  obtain ⟨h0, h1, h2, h3, h4, ⟨h5, w1, w2, w3, w4⟩, h6, h7, h8, h9, h10⟩ := h
  rw [e]
  exact ⟨h0, h1, h2, h3, h4, ⟨h5, w1, w2, Nat.lt_of_le_of_lt hc w3, w4⟩, h6, h7, h8, h9, h10⟩

/-- A flag posted keeps the word within the flags. -/
theorem flagMask_or (p : Params) (f : Flag) : flagWord p f ||| flagMask p = flagMask p := by
  cases f
  · rw [flagMask, ← Nat.or_assoc, Nat.or_self]
  · rw [flagMask, Nat.or_comm, Nat.or_assoc, Nat.or_self]

/-- The end of a transfer leaves a sound state. -/
theorem sound_finished {s : State} (h : Running s) (ht : s.tmrArmed = false) (hl : s.lineOut = true) (f : Flag) :
    Sound (orPending (flagWord s.params f) (entered .idle (clearTransfer s))) := by
  obtain ⟨h1, h2, h4, h5, h6, w1, w2, w3, w4⟩ := h
  have hp : s.pending ||| flagWord s.params f ||| flagMask s.params = flagMask s.params := by
    rw [Nat.or_assoc, flagMask_or, w4]
  simp [entered, prepare, Sound, StateIsNamed, BusyHasMessage, IdleAtRest, IdleMessageIsTriggered,
    TriggerMeansWaiting, RegistersInRange, WidthsHold, CursorInPlace, LineFollowsState, MessageMeansInit,
    TimerFollowsState, BasisIsAdmitted, InState, h1, h4, h5, ht, hl, h6, hp, w1, w2, w3]

/-- In a sound state outside Idle the timer is armed. -/
theorem armed_of_sound {s : State} (h : Sound s) {f : Fsm} (hf : s.state = .named f) (hi : f ≠ .idle) :
    s.tmrArmed = true := h.2.2.2.2.2.2.2.2.2.1.mpr (by simp [InState, hf, hi])

/-- A TICK that finds a count of 1 or less runs the transition. -/
theorem tick_expires {s : State} (h : Sound s) {f : Fsm} (hf : s.state = .named f) (hi : f ≠ .idle)
    (hc : s.tmrCnt ≤ 1) : exec .tick s = timeout f (spent s) := by
  simp only [exec, execTick, whenLive_live h.1.2]
  rw [if_pos (armed_of_sound h hf hi), if_pos hc]
  exact expire_named hf

/-- A TICK that finds a larger count counts down. -/
theorem tick_waits {s : State} (h : Sound s) (ha : s.tmrArmed = true) (hc : ¬ s.tmrCnt ≤ 1) :
    exec .tick s = .next { s with tmrCnt := s.tmrCnt - 1, ret := .nothing } := by
  simp only [exec, execTick, whenLive_live h.1.2]
  rw [if_pos ha, if_neg hc]; rfl

/-- A TICK that finds the timer disarmed does nothing. -/
theorem tick_idles {s : State} (h : Sound s) (ha : s.tmrArmed = false) :
    exec .tick s = .next { s with ret := .nothing } := by
  simp only [exec, execTick, whenLive_live h.1.2]
  rw [if_neg (by simp [ha])]

/-- An expiry in a sound state completes in a sound state, in one of the ways of `Expiry`. -/
theorem tick_expiry {s : State} (h : Sound s) {f : Fsm} (hf : s.state = .named f) (hi : f ≠ .idle)
    (hc : s.tmrCnt ≤ 1) : ∃ t, exec .tick s = .next t ∧ Sound t ∧ Expiry f (spent s) (.next t) := by
  rw [tick_expires h hf hi hc]
  obtain ⟨hr, hp⟩ := resident_of_sound h hf hi
  have hx := timeout_expiry hr hp hi
  have hlo : f = .ackVerify → s.lineOut = true := by rintro rfl; exact hp.2.2.2
  generalize timeout f (spent s) = o at hx
  have hx' := hx
  cases hx with
  | cell g s1 hg hr hp => exact ⟨_, rfl, sound_entered hr hp hg, hx'⟩
  | resend hf ha hr hrun => exact ⟨_, rfl, sound_entered hrun ⟨rfl, rfl⟩ (by decide), hx'⟩
  | ok hf ha hb => exact ⟨_, rfl, sound_finished hr rfl (hlo hf) .sendOk, hx'⟩
  | failed hf ha hb => exact ⟨_, rfl, sound_finished hr rfl (hlo hf) .sendFailed, hx'⟩

/-- A TICK completes in every sound state and leaves a sound state. -/
theorem tick_sound {s : State} (h : Sound s) : ∃ t, exec .tick s = .next t ∧ Sound t := by
  by_cases ha : s.tmrArmed = true
  · by_cases hc : s.tmrCnt ≤ 1
    · have hne := h.2.2.2.2.2.2.2.2.2.1.mp ha
      cases hs : s.state with
      | reserved => exact absurd hs h.1.1
      | named f =>
        obtain ⟨t, e, ht, -⟩ := tick_expiry h hs (by rintro rfl; exact hne hs) hc
        exact ⟨t, e, ht⟩
    · exact ⟨_, tick_waits h ha hc, sound_congr h rfl (Nat.sub_le _ _)⟩
  · exact ⟨_, tick_idles h (by simpa using ha), sound_congr h rfl (Nat.le_refl _)⟩

/-- From every sound state without a trigger there is a fair run of nothing but ticks. -/
theorem fairRun_of_sound {s : State} (h : Sound s) (ht : s.trig = false) :
    ∃ run : Nat → State, run 0 = s ∧ FairRun (fun _ => .tick) run := by
  let next (s : { s : State // Sound s ∧ s.trig = false }) : { s : State // Sound s ∧ s.trig = false } :=
    ⟨(tick_sound s.2.1).choose, (tick_sound s.2.1).choose_spec.2, by
      have k := exec_kept (tick_sound s.2.1).choose_spec.1 (by decide) (by intro _ h; cases h) (by intro _ h; cases h)
        (by decide) (by decide)
      exact k.trig.trans s.2.2⟩
  let run (n : Nat) : { s : State // Sound s ∧ s.trig = false } := Nat.rec ⟨s, h, ht⟩ (fun _ => next) n
  exact ⟨fun n => (run n).1, rfl, fun _ => rfl, fun n => (tick_sound (run n).2.1).choose_spec.1,
    fun n => ⟨n, Nat.le_refl n, rfl⟩, fun n _ => ⟨n, Nat.le_refl n, .inr (run n).2.2⟩⟩

end Sys2Proof.Machine
end

