-- ==== Sys2Proof/Tests/Slice0.lean ====
section
/-!
SUPPORT. Tests. The expected values are the spec's: the keys of 30_encoding.md R104 and the vectors of
95_test_vectors.md V1 to V9, with the default ROM.
-/
namespace Sys2Proof.Tests

open Sys2Proof.Machine Sys2Proof.Spec

/-! ## Looking at an outcome -/

/-- The next state of an outcome, if there is one. -/
def nextOf : Out → Option State
  | .next s => some s
  | .fault _ => none
  | .refused _ => none

/-- The refusal of an outcome, if it is one. -/
def refusalOf : Out → Option Refusal
  | .next _ => none
  | .fault _ => none
  | .refused r => some r

/-- The fault of an outcome, if it is one. -/
def faultOf : Out → Option Fault
  | .next _ => none
  | .fault r => some r
  | .refused _ => none

/-- What an operation returned. -/
def returned (o : Out) : Option Ret := (nextOf o).map (·.ret)

/-- `STATE`, the cursor, the line and the count of an armed timer (0 for a disarmed one). -/
def view (o : Out) : Option (StateReg × Nat × Nat × Bit × Nat) :=
  (nextOf o).map fun s => (s.state, s.byte.val, s.bit.toNat, s.lineOut, if s.tmrArmed then s.tmrCnt else 0)

/-! ## Small states -/

/-- After INIT of `basis`. -/
def ready (basis : Nat) : State := { State.reset with clkBasis := basis, inited := true }

/-- In `f` with a message of `bytes` and the cursor `{byte, bit}`, one tick a microsecond, followers pulling low. -/
def sending (f : Fsm) (bytes : List Byte) (byte : Fin 17) (bit : BitVec 3) : State :=
  { ready 10000 with
    state := .named f, msg := copyBytes bytes 0 (Vector.replicate 16 0), len := Fin.ofNat 17 bytes.length
    byte := byte, bit := bit, followers := [false] }

/-- A message accepted and its START not yet taken. -/
def waiting : State :=
  { ready 10000 with msg := copyBytes [0x40, 0x01] 0 (Vector.replicate 16 0), len := 2, trig := true }

/-- In FreeTime at its last tick, for the message `40 01`. -/
def lastFreeTick : State := { sending .freeTime [0x40, 0x01] 0 0 with tmrArmed := true, tmrCnt := 1 }

/-! ## Well-formedness -/

/-- The longest message the count byte announces. -/
theorem test_wellFormed_send_255 :
    (Instr.send (List.replicate 255 0)).wellFormed = true := by
  simp only [Instr.wellFormed, List.length_replicate]
  decide

/-- The smoke test: the one check there is refuses a message its count byte cannot announce. -/
theorem test_illFormed_send_256 :
    (Instr.send (List.replicate 256 0)).wellFormed = false := by
  simp only [Instr.wellFormed, List.length_replicate]
  decide

/-- The two operands of 32 bits at the first value their byte form cannot hold. -/
theorem test_illFormed_operands :
    (Instr.init (2 ^ 32)).wellFormed = false ∧ (Instr.tmrArm (2 ^ 32)).wellFormed = false := by decide

/-! ## Decoding, every constructor from its key (30_encoding.md R104) -/

theorem test_decode_host :
    [decodeTableWord 8 0b000, decodeTableWord 40 0x0000271001, decodeTableWord 32 0x01400202,
    decodeTableWord 8 0b011] =
      [some .reset, some (.init 10000), some (.send [0x40, 0x01]), some .poll] := by decide

theorem test_decode_event :
    [decodeTableWord 8 0b100, decodeTableWord 8 0b101] = [some .start, some .tick] := by decide

theorem test_decode_timeout :
    [0b1100000, 0b1100001, 0b1100010, 0b1100011, 0b1100100,
       0b1100101, 0b1100110, 0b1100111, 0b1101000, 0b1101001,
       0b1101010, 0b1101011, 0b1101100, 0b1101101, 0b1101110].map (decodeTableWord 8) =
      [.timeoutIdle, .timeoutFreeTime, .timeoutStartLow, .timeoutStartHigh, .timeoutHeaderInitLow,
       .timeoutHeaderInitHigh, .timeoutHeaderDestLow, .timeoutHeaderDestHigh, .timeoutEomLow, .timeoutEomHigh,
       .timeoutAckLow, .timeoutAckHigh, .timeoutAckVerify, .timeoutDataLow, .timeoutDataHigh].map some := by decide

theorem test_decode_enter :
    [0b1110000, 0b1110001, 0b1110010, 0b1110011, 0b1110100,
       0b1110101, 0b1110110, 0b1110111, 0b1111000, 0b1111001,
       0b1111010, 0b1111011, 0b1111100, 0b1111101, 0b1111110].map (decodeTableWord 8) =
      [.enterIdle, .enterFreeTime, .enterStartLow, .enterStartHigh, .enterHeaderInitLow,
       .enterHeaderInitHigh, .enterHeaderDestLow, .enterHeaderDestHigh, .enterEomLow, .enterEomHigh,
       .enterAckLow, .enterAckHigh, .enterAckVerify, .enterDataLow, .enterDataHigh].map some := by decide

/-- Key `aaaa` below the format tag 1 (log 2). -/
theorem test_decode_rom :
    [0x10, 0x11, 0x12, 0x13, 0x14, 0x15, 0x16, 0x17, 0x18, 0x19].map (decodeTableWord 8) =
      [.tStartLow, .tStartHigh, .tZeroLow, .tZeroHigh, .tOneLow, .tOneHigh, .tFreeNi, .tFreeRs, .tBitPeriod,
      .tSample].map some := by decide

/-- Key `uuuu` below the format tag 2, operations with no operand (log 2). -/
theorem test_decode_uop_plain :
    [0x23, 0x24, 0x25, 0x26, 0x27, 0x28, 0x2a, 0x2c, 0x2d].map (decodeTableWord 8) =
      [.ackHighTicks, .ackVerifyTicks, .curReset, .curBit, .curAdv, .curEom, .tmrStop, .lineGet,
      .ackSample].map some := by decide

/-- Operations with an operand, low byte first (log 2). -/
theorem test_decode_uop_operand :
    [decodeTableWord 24 0x0e7420, decodeTableWord 16 0x0121, decodeTableWord 16 0x0022,
    decodeTableWord 40 0x00000e7429,
      decodeTableWord 16 0x012b, decodeTableWord 16 0x022e, decodeTableWord 16 0x092f] =
      [some (.ticks 3700), some (.lowTicks true), some (.highTicks false), some (.tmrArm 3700), some (.lineSet true),
       some (.evtPost .sendFailed), some (.romRead 9)] := by decide

/-- HOST and EVENT keys 110 and 111, state code 15, ROM key 10 and the unused format tags are no operation
(30_encoding.md R103). -/
theorem test_decode_reserved :
    [0b110, 0b111, 0b1101111, 0b1111111, 0x1a, 0x30, 0x80].map (decodeTableWord 8) = List.replicate 7 none := by
  decide

theorem test_decode_reserved_operands :
    [decodeTableWord 16 0x022b, decodeTableWord 16 0x002e, decodeTableWord 16 0x102f] = [none, none, none] := by
  decide

theorem test_decode_truncated :
    decode [0x01, 0x10, 0x27] = .error .truncated := rfl

/-! ## The host's operations (44_timer_adapter.md, 95_test_vectors.md) -/

/-- RESET is the way out of `FAULTED` (70_reset_and_hazards.md R350). -/
theorem test_reset_leaves_fault :
    (nextOf (exec .reset { waiting with faulted := true, resends := 3 })).map
      (fun s => (s.faulted, s.len, s.trig, s.resends, s.inited)) =
      some (false, 0, false, 0, false) := by decide

/-- The smallest and the largest admitted basis (V1). -/
theorem test_init_bounds :
    (nextOf (exec (.init 20) State.reset)).map (fun s => (s.clkBasis, s.inited)) = some (20, true) ∧
    (nextOf (exec (.init 3579139413) State.reset)).isSome = true := by decide

/-- The bases just outside the range (V1), and INIT with a message held. -/
theorem test_init_refused :
    refusalOf (exec (.init 19) State.reset) = some .basisNotAdmitted ∧
    refusalOf (exec (.init 3579139414) State.reset) = some .basisNotAdmitted ∧
    refusalOf (exec (.init 10000) waiting) = some .initDuringTransfer := by decide

/-- The bytes past the message keep their values (R256). -/
theorem test_send_copies :
    (nextOf (exec (.send [0x40, 0x01]) { ready 10000 with msg := Vector.replicate 16 0xff })).map
      (fun s => (s.msg[0], s.msg[1], s.msg[2], s.len, s.trig, s.ret)) =
      some (0x40, 0x01, 0xff, 2, true, .send .accepted) := by decide

/-- `busy`, `invalid` at lengths 0 and 17, and SEND before INIT (R256). -/
theorem test_send_answers :
    returned (exec (.send [0xff]) waiting) = some (.send .busy) ∧
    returned (exec (.send []) (ready 10000)) = some (.send .invalid) ∧
    returned (exec (.send (List.replicate 17 0)) (ready 10000)) = some (.send .invalid) ∧
    refusalOf (exec (.send [0x40]) State.reset) = some .notInitialised := by decide

/-- 45_result_notifier.md R282. -/
theorem test_poll_drains :
    (nextOf (exec .poll { ready 10000 with pending := 3 })).map (fun s => (s.ret, s.pending)) =
      some (.word 3, 0) := by decide

/-! ## The hardware's events -/

/-- The new-initiator free time (R255). -/
theorem test_start_begins :
    view (exec .start waiting) = some (.named .freeTime, 0, 0, true, 12000) ∧
    (nextOf (exec .start waiting)).map (·.trig) = some false := by decide

/-- With `TRIG = 0` the step is not enabled (R255; log 11). -/
theorem test_start_not_enabled :
    refusalOf (exec .start (ready 10000)) = some .startNotEnabled := by decide

/-- R253. -/
theorem test_tick_counts :
    view (exec .tick { lastFreeTick with tmrCnt := 2 }) = some (.named .freeTime, 0, 0, true, 1) := by decide

/-- The expiry runs the transition in the same step (R253). -/
theorem test_tick_expires :
    view (exec .tick lastFreeTick) = some (.named .startLow, 0, 0, false, 3700) := by decide

/-- The expiry has spent the timer before the fault (R253), after which nothing is enabled (10_state.md R38). -/
theorem test_tick_in_reserved_state :
    (nextOf (exec .tick { lastFreeTick with state := .reserved })).map
      (fun s => (s.faulted, s.tmrArmed, s.tmrCnt, s.lineOut)) = some (true, false, 0, true) ∧
    faultOf (exec .poll { lastFreeTick with faulted := true }) = some .illegalState := by decide

/-- START has cleared its trigger before the fault (R255, 70_reset_and_hazards.md R355). -/
theorem test_start_in_reserved_state :
    (nextOf (exec .start { waiting with state := .reserved })).map (fun s => (s.faulted, s.trig, s.len)) =
      some (true, false, 2) := by decide

/-! ## The timeout transitions (V4) -/

theorem test_timeoutIdle :
    view (exec .timeoutIdle (sending .idle [0x40, 0x01] 0 0)) = some (.named .idle, 0, 0, true, 0) := by decide

theorem test_timeoutFreeTime :
    view (exec .timeoutFreeTime (sending .freeTime [0x40, 0x01] 1 3)) =
    some (.named .startLow, 0, 0, false, 3700) := by decide

theorem test_timeoutStartLow :
    view (exec .timeoutStartLow (sending .startLow [0x40, 0x01] 0 0)) =
    some (.named .startHigh, 0, 0, true, 800) := by decide

theorem test_timeoutStartHigh :
    view (exec .timeoutStartHigh (sending .startHigh [0x40, 0x01] 0 0)) =
    some (.named .headerInitLow, 0, 0, false, 1500) := by decide

theorem test_timeoutHeaderInitLow :
    view (exec .timeoutHeaderInitLow (sending .headerInitLow [0x40, 0x01] 0 1)) =
    some (.named .headerInitHigh, 0, 1, true, 1800) := by decide

theorem test_timeoutHeaderInitHigh :
    view (exec .timeoutHeaderInitHigh (sending .headerInitHigh [0x40, 0x01] 0 2)) =
    some (.named .headerInitLow, 0, 3, false, 1500) ∧
    view (exec .timeoutHeaderInitHigh (sending .headerInitHigh [0x40, 0x01] 0 3)) =
    some (.named .headerDestLow, 0, 4, false, 1500) := by decide

theorem test_timeoutHeaderDestLow :
    view (exec .timeoutHeaderDestLow (sending .headerDestLow [0x40, 0x01] 0 4)) =
    some (.named .headerDestHigh, 0, 4, true, 900) := by decide

theorem test_timeoutHeaderDestHigh :
    view (exec .timeoutHeaderDestHigh (sending .headerDestHigh [0x40, 0x01] 0 6)) =
    some (.named .headerDestLow, 0, 7, false, 1500) ∧
    view (exec .timeoutHeaderDestHigh (sending .headerDestHigh [0x40, 0x01] 0 7)) =
    some (.named .eomLow, 1, 0, false, 1500) := by decide

theorem test_timeoutEomLow :
    view (exec .timeoutEomLow (sending .eomLow [0x40, 0x01] 1 0)) = some (.named .eomHigh, 1, 0, true, 900) := by
  decide

theorem test_timeoutEomHigh :
    view (exec .timeoutEomHigh (sending .eomHigh [0x40, 0x01] 1 0)) = some (.named .ackLow, 1, 0, false, 600) := by
  decide

theorem test_timeoutAckLow :
    view (exec .timeoutAckLow (sending .ackLow [0x40, 0x01] 1 0)) = some (.named .ackHigh, 1, 0, true, 450) := by
  decide

theorem test_timeoutAckHigh :
    view (exec .timeoutAckHigh (sending .ackHigh [0x40, 0x01] 1 0)) = some (.named .ackVerify, 1, 0, true, 1350) ∧
    (nextOf (exec .timeoutAckHigh (sending .ackHigh [0x40, 0x01] 1 0))).map (·.ack) = some true := by decide

theorem test_timeoutAckVerify_acknowledged :
    view (exec .timeoutAckVerify { sending .ackVerify [0x40, 0x01] 1 0 with ack := true }) =
      some (.named .dataLow, 1, 0, false, 1500) ∧
    (nextOf (exec .timeoutAckVerify { sending .ackVerify [0x40, 0x01] 2 0 with ack := true, resends := 4 })).map
      (fun s => (s.state, s.len, s.resends, s.byte, s.pending)) = some (.named .idle, 0, 0, 0, 1) := by decide

theorem test_timeoutAckVerify_refused :
    view (exec .timeoutAckVerify { sending .ackVerify [0x40, 0x01] 1 0 with resends := 4 }) =
      some (.named .freeTime, 0, 0, true, 7200) ∧
    (nextOf (exec .timeoutAckVerify { sending .ackVerify [0x40, 0x01] 2 0 with resends := 5 })).map
      (fun s => (s.state, s.len, s.resends, s.byte, s.pending)) = some (.named .idle, 0, 0, 0, 2) := by decide

theorem test_timeoutDataLow :
    view (exec .timeoutDataLow (sending .dataLow [0x40, 0x01] 1 7)) = some (.named .dataHigh, 1, 7, true, 1800) := by
  decide

theorem test_timeoutDataHigh :
    view (exec .timeoutDataHigh (sending .dataHigh [0x40, 0x01] 1 6)) = some (.named .dataLow, 1, 7, false, 600) ∧
    view (exec .timeoutDataHigh (sending .dataHigh [0x40, 0x01] 1 7)) = some (.named .eomLow, 2, 0, false, 600) := by
  decide

/-! ## The entry actions (V3) -/

theorem test_enterIdle :
    view (exec .enterIdle (sending .idle [0x40, 0x01] 2 0)) = some (.named .idle, 0, 0, true, 0) := by decide

theorem test_enterFreeTime :
    view (exec .enterFreeTime (sending .idle [0x40, 0x01] 0 0)) = some (.named .idle, 0, 0, true, 12000) ∧
    view (exec .enterFreeTime { sending .idle [0x40, 0x01] 0 0 with resends := 1 }) =
      some (.named .idle, 0, 0, true, 7200) := by decide

theorem test_enterStartLow :
    view (exec .enterStartLow (sending .idle [0x40, 0x01] 1 0)) = some (.named .idle, 0, 0, false, 3700) := by decide

theorem test_enterStartHigh :
    view (exec .enterStartHigh (sending .idle [0x40, 0x01] 0 0)) = some (.named .idle, 0, 0, true, 800) := by decide

theorem test_enterHeaderInitLow :
    view (exec .enterHeaderInitLow (sending .idle [0x40, 0x01] 0 0)) = some (.named .idle, 0, 0, false, 1500) ∧
    view (exec .enterHeaderInitLow (sending .idle [0x40, 0x01] 0 1)) = some (.named .idle, 0, 1, false, 600) := by
  decide

theorem test_enterHeaderInitHigh :
    view (exec .enterHeaderInitHigh (sending .idle [0x40, 0x01] 0 0)) = some (.named .idle, 0, 0, true, 900) ∧
    view (exec .enterHeaderInitHigh (sending .idle [0x40, 0x01] 0 1)) = some (.named .idle, 0, 1, true, 1800) := by
  decide

theorem test_enterHeaderDestLow :
    view (exec .enterHeaderDestLow (sending .idle [0x4f] 0 4)) = some (.named .idle, 0, 4, false, 600) ∧
    view (exec .enterHeaderDestLow (sending .idle [0x40, 0x01] 0 4)) = some (.named .idle, 0, 4, false, 1500) := by
  decide

theorem test_enterHeaderDestHigh :
    view (exec .enterHeaderDestHigh (sending .idle [0x4f] 0 7)) = some (.named .idle, 0, 7, true, 1800) ∧
    view (exec .enterHeaderDestHigh (sending .idle [0x40, 0x01] 0 7)) = some (.named .idle, 0, 7, true, 900) := by
  decide

theorem test_enterEomLow :
    view (exec .enterEomLow (sending .idle [0x40, 0x01] 1 0)) = some (.named .idle, 1, 0, false, 1500) ∧
    view (exec .enterEomLow (sending .idle [0x40, 0x01] 2 0)) = some (.named .idle, 2, 0, false, 600) := by decide

theorem test_enterEomHigh :
    view (exec .enterEomHigh (sending .idle [0x40, 0x01] 1 0)) = some (.named .idle, 1, 0, true, 900) ∧
    view (exec .enterEomHigh (sending .idle [0x40, 0x01] 2 0)) = some (.named .idle, 2, 0, true, 1800) := by decide

theorem test_enterAckLow :
    view (exec .enterAckLow (sending .idle [0x40, 0x01] 1 0)) = some (.named .idle, 1, 0, false, 600) := by decide

theorem test_enterAckHigh :
    view (exec .enterAckHigh (sending .idle [0x40, 0x01] 1 0)) = some (.named .idle, 1, 0, true, 450) := by decide

theorem test_enterAckVerify :
    view (exec .enterAckVerify (sending .idle [0x40, 0x01] 1 0)) = some (.named .idle, 1, 0, true, 1350) ∧
    (nextOf (exec .enterAckVerify (sending .idle [0x4f] 1 0))).map (·.ack) = some false := by decide

theorem test_enterDataLow :
    view (exec .enterDataLow (sending .idle [0x40, 0x01] 1 0)) = some (.named .idle, 1, 0, false, 1500) ∧
    view (exec .enterDataLow (sending .idle [0x40, 0x01] 1 7)) = some (.named .idle, 1, 7, false, 600) := by decide

theorem test_enterDataHigh :
    view (exec .enterDataHigh (sending .idle [0x40, 0x01] 1 0)) = some (.named .idle, 1, 0, true, 900) ∧
    view (exec .enterDataHigh (sending .idle [0x40, 0x01] 1 7)) = some (.named .idle, 1, 7, true, 1800) := by decide

/-! ## The timing table at the basis 12345 (V1) -/

theorem test_tStartLow :
    returned (exec .tStartLow (ready 12345)) = some (.ticks 4567) := by decide

theorem test_tStartHigh :
    returned (exec .tStartHigh (ready 12345)) = some (.ticks 987) := by decide

theorem test_tZeroLow :
    returned (exec .tZeroLow (ready 12345)) = some (.ticks 1851) := by decide

theorem test_tZeroHigh :
    returned (exec .tZeroHigh (ready 12345)) = some (.ticks 1111) := by decide

theorem test_tOneLow :
    returned (exec .tOneLow (ready 12345)) = some (.ticks 740) := by decide

theorem test_tOneHigh :
    returned (exec .tOneHigh (ready 12345)) = some (.ticks 2222) := by decide

theorem test_tFreeNi :
    returned (exec .tFreeNi (ready 12345)) = some (.ticks 14814) := by decide

theorem test_tFreeRs :
    returned (exec .tFreeRs (ready 12345)) = some (.ticks 8888) := by decide

theorem test_tBitPeriod :
    returned (exec .tBitPeriod (ready 12345)) = some (.ticks 2962) := by decide

theorem test_tSample :
    returned (exec .tSample (ready 12345)) = some (.ticks 1296) := by decide

theorem test_romRead :
    returned (exec (.romRead 9) (ready 0)) = some (.micros 1050) ∧
    refusalOf (exec (.romRead 10) (ready 0)) = some .romAddress := by decide

/-- The product is not truncated to 32 bits (40_timing_table.md R132). -/
theorem test_ticks_wide :
    returned (exec (.ticks 65535) (ready 4294967295)) = some (.ticks 28147068167) := by decide

theorem test_lowTicks :
    returned (exec (.lowTicks true) (ready 10000)) = some (.ticks 600) ∧
    returned (exec (.lowTicks false) (ready 10000)) = some (.ticks 1500) := by decide

theorem test_highTicks :
    returned (exec (.highTicks true) (ready 10000)) = some (.ticks 1800) ∧
    returned (exec (.highTicks false) (ready 10000)) = some (.ticks 900) := by decide

/-- Tick counts are subtracted, not microseconds (V1: 556 and not 555). -/
theorem test_ackHighTicks :
    returned (exec .ackHighTicks (ready 12345)) = some (.ticks 556) := by decide

theorem test_ackVerifyTicks :
    returned (exec .ackVerifyTicks (ready 12345)) = some (.ticks 1666) := by decide

/-! ## The cursor (V2) -/

theorem test_curReset :
    view (exec .curReset (sending .idle [0x40, 0x01] 2 0)) = some (.named .idle, 0, 0, true, 0) := by decide

theorem test_curBit :
    [0, 1, 2, 3, 4, 5, 6, 7].map (fun k => returned (exec .curBit (sending .idle [0xa5] 0 k))) =
      [true, false, true, false, false, true, false, true].map (fun b => some (.bit b)) := by decide

theorem test_curBit_past_the_message :
    returned (exec .curBit { sending .idle [0x40, 0x01, 0xff] 2 0 with len := 2 }) = some (.bit false) ∧
    returned (exec .curBit (sending .idle (List.replicate 15 0 ++ [0x01]) 15 7)) = some (.bit true) := by decide

theorem test_curAdv :
    view (exec .curAdv (sending .idle [0x40, 0x01] 0 3)) = some (.named .idle, 0, 4, true, 0) ∧
    view (exec .curAdv (sending .idle [0x40, 0x01] 15 7)) = some (.named .idle, 16, 0, true, 0) := by decide

/-- A cursor that cannot move is refused, and the transition that moves it (93_implementation_defined.md U19). -/
theorem test_curAdv_past_the_buffer :
    refusalOf (exec .curAdv (sending .dataHigh [0x40, 0x01] 16 7)) = some .byteRange ∧
    refusalOf (exec .timeoutDataHigh (sending .dataHigh [0x40, 0x01] 16 7)) = some .byteRange := by decide

theorem test_curEom :
    returned (exec .curEom (sending .idle [0x40, 0x01] 2 0)) = some (.bit true) ∧
    returned (exec .curEom (sending .idle [0x40, 0x01] 1 5)) = some (.bit false) := by decide

/-! ## The timer, the line, the sample and the flags -/

theorem test_tmrArm :
    view (exec (.tmrArm 3700) lastFreeTick) = some (.named .freeTime, 0, 0, true, 3700) ∧
    refusalOf (exec (.tmrArm 0) lastFreeTick) = some .armZero := by decide

/-- A count the timer cannot hold arms it all the same (log 12). -/
theorem test_tmrArm_oversize :
    (nextOf (exec (.tmrArm (2 ^ 32)) (ready 10000))).map (·.tmrArmed) = some true ∧
    (nextOf (exec .start { waiting with clkBasis := 2 ^ 32 - 1 })).map (fun s => (s.state, s.lineOut, s.tmrArmed)) =
      some (.named .freeTime, true, true) := by decide

theorem test_tmrStop :
    (nextOf (exec .tmrStop lastFreeTick)).map (fun s => (s.tmrArmed, s.tmrCnt)) = some (false, 0) := by decide

theorem test_lineSet :
    (nextOf (exec (.lineSet false) (ready 0))).map (·.lineOut) = some false := by decide

theorem test_lineGet :
    returned (exec .lineGet { ready 0 with followers := [true] }) = some (.bit true) ∧
    returned (exec .lineGet { ready 0 with followers := [true], lineOut := false }) = some (.bit false) := by decide

/-- The truth table of 42_fsm_entry.md R196. -/
theorem test_ackSample :
    [[0x40], [0x4f]].map (fun m => (nextOf (exec .ackSample (sending .ackHigh m 1 0))).map (·.ack)) =
    [some true, some false] ∧
    [[0x40], [0x4f]].map (fun m =>
        (nextOf (exec .ackSample { sending .ackHigh m 1 0 with followers := [true] })).map (·.ack)) =
      [some false, some true] := by decide

theorem test_evtPost :
    (nextOf (exec (.evtPost .sendFailed) { ready 0 with pending := 1 })).map (·.pending) = some 3 ∧
    (nextOf (exec (.evtPost .sendOk) { ready 0 with pending := 1 })).map (·.pending) = some 1 := by decide

/-! ## Witnesses: for each statement with hypotheses, operands that meet them, for each clause at its bounds -/

theorem test_waiting_sound :
    Sound waiting := by
  refine ⟨?_, ?_, ?_, ?_, ?_, ?_, ?_, ?_, ?_, ?_, ?_⟩ <;> decide

theorem test_lastFreeTick_sound :
    Sound lastFreeTick := by
  refine ⟨?_, ?_, ?_, ?_, ?_, ?_, ?_, ?_, ?_, ?_, ?_⟩ <;> decide

/-- At the end of an acknowledged block, with the resends used up. -/
def verified : State :=
  { sending .ackVerify [0x40, 0x01] 1 0 with tmrArmed := true, tmrCnt := 1, ack := true, resends := 5, trig := false }

theorem test_verified_sound :
    Sound verified := by
  refine ⟨?_, ?_, ?_, ?_, ?_, ?_, ?_, ?_, ?_, ?_, ?_⟩ <;> decide

theorem test_ready_sound :
    Sound (ready 10000) := by
  refine ⟨?_, ?_, ?_, ?_, ?_, ?_, ?_, ?_, ?_, ?_, ?_⟩ <;> decide

theorem test_witness_DecodeOfEncodeIsIdentity :
    (Instr.init 0xffffffff).wellFormed = true ∧ (Instr.send []).wellFormed = true := by decide

theorem test_witness_EncodeOfDecodeIsIdentity :
    decode [0x2f, 0x0f] = .ok (.romRead 15, []) := rfl

theorem test_witness_StepRunsTheDecodedOperation :
    decode { State.reset with inputs := [0x05, 0x03] }.inputs = .ok (.tick, [0x03]) ∧
    { State.reset with inputs := [0x06] }.inputs ≠ [] ∧
    decode { State.reset with inputs := [0x06] }.inputs = .error (.reservedOpcode 0x06) := ⟨rfl, by decide, rfl⟩

theorem test_witness_FetchedWordIsRun :
    decodeTableWord 8 0b101 = some .tick := by decide

theorem test_witness_StepWithoutInputsIsHardware :
    State.reset.inputs = [] ∧ State.reset.trig = false ∧ waiting.inputs = [] ∧ waiting.trig = true := by decide

theorem test_witness_InitSetsTheAdmittedBasis :
    State.reset.faulted = false ∧ State.reset.len = 0 ∧ admitted State.reset.params State.reset.rom 20 = true ∧
    admitted State.reset.params State.reset.rom 19 = false ∧ waiting.faulted = false ∧ waiting.len ≠ 0 := by decide

theorem test_witness_SendAdmitsCopiesAndTriggers :
    State.reset.faulted = false ∧ State.reset.inited = false ∧
    waiting.faulted = false ∧ waiting.inited = true ∧ waiting.len ≠ 0 ∧
    (ready 20).faulted = false ∧ (ready 20).inited = true ∧ (ready 20).len = 0 ∧ ([] : List Byte).length = 0 ∧
    16 < (List.replicate 17 (0 : Byte)).length ∧ 1 ≤ [(0 : Byte)].length ∧ (List.replicate 16 (0 : Byte)).length ≤ 16 := by decide

theorem test_witness_StartBeginsTheTransfer :
    (waiting.faulted = false ∧ waiting.state = .named .idle ∧ waiting.trig = true ∧ waiting.len ≠ 0 ∧
      TimerTakes waiting (duration 6 waiting) ∧ TimerTakes { waiting with clkBasis := 3579139413 } (duration 6 { waiting with clkBasis := 3579139413 })) ∧
    (lastFreeTick.faulted = false ∧ { lastFreeTick with trig := true }.state = .named .freeTime ∧
      { lastFreeTick with trig := true }.trig = true) ∧
    ({ waiting with len := 0 }.trig = true ∧ { waiting with len := 0 }.state = .named .idle) ∧
    (ready 20).faulted = false ∧ (ready 20).state = .named .idle ∧ (ready 20).trig = false := by decide

theorem test_witness_TickCountsDown :
    (ready 20).faulted = false ∧ (ready 20).tmrArmed = false ∧ lastFreeTick.faulted = false ∧
    { lastFreeTick with tmrCnt := 2 }.tmrArmed = true ∧ 2 ≤ { lastFreeTick with tmrCnt := 2 }.tmrCnt := by decide

theorem test_witness_ArmedTimerExpiresAtItsLastTick :
    lastFreeTick.faulted = false ∧ lastFreeTick.state = .named .freeTime ∧ lastFreeTick.tmrArmed = true ∧
    1 ≤ lastFreeTick.tmrCnt ∧ 1 < { lastFreeTick with tmrCnt := 2 }.tmrCnt := by decide

theorem test_witness_ExpiryRunsTheTransitionOfTheState :
    lastFreeTick.faulted = false ∧ lastFreeTick.state = .named .freeTime ∧ lastFreeTick.tmrArmed = true ∧
    lastFreeTick.tmrCnt ≤ 1 ∧ { lastFreeTick with tmrCnt := 0 }.tmrCnt ≤ 1 := by decide

theorem test_witness_ReservedStateFaults :
    { lastFreeTick with state := .reserved }.state = .reserved ∧ lastFreeTick.faulted = false ∧
    lastFreeTick.tmrArmed = true ∧ lastFreeTick.tmrCnt ≤ 1 ∧
    { waiting with state := .reserved }.faulted = false ∧ { waiting with state := .reserved }.trig = true := by decide

theorem test_witness_FaultedBlockStaysFaulted :
    { waiting with faulted := true }.faulted = true ∧ Instr.tick ≠ .reset := by decide

theorem test_witness_RomReadAndTicks :
    (ready 20).faulted = false ∧ (9 : BitVec 4).toNat < 10 ∧ 10 ≤ (10 : BitVec 4).toNat ∧ 10 ≤ (15 : BitVec 4).toNat := by decide

/-- Each difference at its bound, 0. -/
theorem test_witness_AckDurationsSubtractTicks :
    (ready 19).faulted = false ∧ duration 4 (ready 19) = duration 9 (ready 19) ∧ (ready 1).faulted = false ∧
    duration 9 (ready 1) = duration 8 (ready 1) ∧ duration 4 (ready 1) ≤ duration 9 (ready 1) := by decide

theorem test_witness_CursorBitReadsMostSignificantFirst :
    waiting.faulted = false ∧ { waiting with byte := 2 }.len.val ≤ { waiting with byte := 2 }.byte.val ∧
    { waiting with len := 16, byte := 15 }.byte.val < 16 ∧
    { waiting with len := 16, byte := 15 }.byte.val < { waiting with len := 16, byte := 15 }.len.val := by decide

theorem test_witness_CursorAdvanceRollsOver :
    waiting.faulted = false ∧ { waiting with bit := 6 }.bit ≠ 7 ∧
    { waiting with byte := 15, bit := 7 }.bit = 7 ∧ { waiting with byte := 15, bit := 7 }.byte.val < 16 ∧
    { waiting with byte := 16, bit := 7 }.bit = 7 ∧ { waiting with byte := 16, bit := 7 }.byte = 16 := by decide

/-- At the smallest admitted basis, where the shortest durations are 1, and at the largest. -/
theorem test_witness_FixedEntriesDriveAndArm :
    (ready 20).faulted = false ∧ (ready 20).resends = 0 ∧ { ready 20 with resends := 1 }.resends ≠ 0 ∧ TimerTakes (ready 20) (duration 0 (ready 20)) ∧
    TimerTakes (ready 20) (duration 1 (ready 20)) ∧ TimerTakes (ready 20) (duration 4 (ready 20)) ∧ TimerTakes (ready 20) (duration 6 (ready 20)) ∧
    TimerTakes (ready 20) (duration 7 (ready 20)) ∧ duration 4 (ready 20) ≤ duration 9 (ready 20) ∧
    TimerTakes (ready 20) (duration 9 (ready 20) - duration 4 (ready 20)) ∧
    TimerTakes (ready 3579139413) (duration 6 (ready 3579139413)) := by decide

theorem test_witness_BitEntriesFollowTheCursor :
    (ready 20).faulted = false ∧ TimerTakes (ready 20) (lowFor (curBit (ready 20)) (ready 20)) ∧
    TimerTakes (ready 20) (highFor (curBit (ready 20)) (ready 20)) := by decide

theorem test_witness_EomEntriesMarkTheLastByte :
    waiting.faulted = false ∧
    ({ waiting with byte := 2 }.bit = 0 ∧ { waiting with byte := 2 }.byte = { waiting with byte := 2 }.len ∧
      TimerTakes { waiting with byte := 2 } (duration 4 { waiting with byte := 2 }) ∧ TimerTakes { waiting with byte := 2 } (duration 5 { waiting with byte := 2 })) ∧
    ¬ (waiting.bit = 0 ∧ waiting.byte = waiting.len) ∧ TimerTakes waiting (duration 2 waiting) ∧ TimerTakes waiting (duration 3 waiting) := by decide

theorem test_witness_SampleInvertsForBroadcast :
    lastFreeTick.faulted = false ∧ lastFreeTick.followers = false :: [] ∧ waiting.faulted = false ∧ waiting.followers = [] := by decide

theorem test_witness_AckVerifyEntrySamplesAndArms :
    (ready 20).faulted = false ∧ duration 9 (ready 20) ≤ duration 8 (ready 20) ∧
    TimerTakes (ready 20) (duration 8 (ready 20) - duration 9 (ready 20)) ∧ (ready 20).followers = [] ∧
    { ready 20 with followers := [true] }.followers = true :: [] := by decide

theorem test_witness_CellTransitionsKeepTheCursor :
    waiting.faulted = false ∧ TimerTakes waiting (highFor (curBit waiting) waiting) ∧
    TimerTakes waiting (highFor (decide (waiting.bit = 0 ∧ waiting.byte = waiting.len)) waiting) := by decide

theorem test_witness_HeaderTransitionsCountBits :
    (sending .headerInitHigh [0x40] 0 3).faulted = false ∧ CanAdvance (sending .headerInitHigh [0x40] 0 3) ∧
    (advanced (sending .headerInitHigh [0x40] 0 3)).bit = 4 ∧ (advanced (sending .headerInitHigh [0x40] 0 2)).bit ≠ 4 ∧
    TimerTakes (sending .headerInitHigh [0x40] 0 3) (lowFor (curBit (advanced (sending .headerInitHigh [0x40] 0 3))) (sending .headerInitHigh [0x40] 0 3)) ∧
    TimerTakes (sending .headerInitHigh [0x40] 0 2) (lowFor (curBit (advanced (sending .headerInitHigh [0x40] 0 2))) (sending .headerInitHigh [0x40] 0 2)) := by decide

/-- Before the last bit of a byte, and at it. -/
def atBit (f : Fsm) (byte : Fin 17) (bit : BitVec 3) : State := sending f [0x40, 0x01] byte bit

theorem test_witness_ByteEndsLeadToTheEomBit :
    (atBit .dataHigh 1 7).faulted = false ∧ CanAdvance (atBit .dataHigh 1 7) ∧ CanAdvance (atBit .headerDestHigh 0 7) ∧
    (advanced (atBit .dataHigh 1 6)).bit ≠ 0 ∧ (advanced (atBit .headerDestHigh 0 6)).byte ≠ 1 ∧
    TimerTakes (atBit .dataHigh 1 6) (lowFor (curBit (advanced (atBit .dataHigh 1 6))) (atBit .dataHigh 1 6)) ∧
    TimerTakes (atBit .headerDestHigh 0 6) (lowFor (curBit (advanced (atBit .headerDestHigh 0 6))) (atBit .headerDestHigh 0 6)) ∧
    (advanced (atBit .dataHigh 1 7)).bit = 0 ∧ (advanced (atBit .headerDestHigh 0 7)).byte = 1 ∧
    TimerTakes (atBit .dataHigh 1 7) (lowFor (decide ((advanced (atBit .dataHigh 1 7)).bit = 0 ∧ (advanced (atBit .dataHigh 1 7)).byte = (atBit .dataHigh 1 7).len)) (atBit .dataHigh 1 7)) ∧
    TimerTakes (atBit .headerDestHigh 0 7) (lowFor (decide ((advanced (atBit .headerDestHigh 0 7)).bit = 0 ∧ (advanced (atBit .headerDestHigh 0 7)).byte = (atBit .headerDestHigh 0 7).len)) (atBit .headerDestHigh 0 7)) := by decide

theorem test_witness_ResendPolicy :
    verified.faulted = false ∧ verified.ack = true ∧ ¬ (verified.bit = 0 ∧ verified.byte = verified.len) ∧
    TimerTakes verified (lowFor (curBit verified) verified) ∧
    { verified with byte := 2 }.bit = 0 ∧ { verified with byte := 2 }.byte = { verified with byte := 2 }.len ∧
    { verified with ack := false }.ack = false ∧ { verified with resends := 4 }.resends.val < 5 ∧
    TimerTakes verified (duration 7 verified) ∧ 5 ≤ verified.resends.val := by decide

theorem test_witness_TimerArmsAndStops :
    TimerTakes (ready 20) 1 ∧ TimerTakes (ready 20) 0xffffffff ∧ 2 ^ (ready 20).params.timerW ≤ 2 ^ 32 ∧
    (ready 20).faulted = false := by decide

/-- A waiting message with the basis 0, where every duration that is no difference is 0. -/
def zeroBasis : State := { waiting with clkBasis := 0 }

/-- Equal sample and low phase, where the difference AckHigh arms is 0. -/
def zeroDifference : State := { waiting with clkBasis := 1 }

theorem test_witness_ZeroDurationIsRefused :
    zeroBasis.faulted = false ∧
    ([.freeTime, .startLow, .startHigh, .headerInitLow, .headerInitHigh, .headerDestLow, .headerDestHigh, .eomLow,
      .eomHigh, .ackLow, .ackHigh, .ackVerify, .dataLow, .dataHigh] : List Fsm).map (entryDuration · zeroBasis) =
      List.replicate 14 0 ∧
    entryDuration .ackHigh zeroDifference = 0 ∧
    reached .freeTime zeroBasis = some (.startLow, zeroBasis) ∧
    reached .dataHigh { zeroBasis with byte := 1, bit := 7 } =
      some (.eomLow, advanced { zeroBasis with byte := 1, bit := 7 }) ∧
    entryDuration .eomLow (advanced { zeroBasis with byte := 1, bit := 7 }) = 0 ∧
    reached .ackVerify { zeroBasis with resends := 4 } =
      some (.freeTime, { zeroBasis with resends := 5, byte := 0, bit := 0 }) ∧
    zeroBasis.trig = true ∧ zeroBasis.state = .named .idle ∧ zeroBasis.len ≠ 0 ∧ duration 6 zeroBasis = 0 := by decide

/-- A basis with which the free time is more than the timer's width holds. -/
def wideBasis : State := { waiting with clkBasis := 2 ^ 32 - 1 }

theorem test_witness_EveryDurationArmsTheTimer :
    wideBasis.faulted = false ∧ 2 ^ 32 ≤ entryDuration .freeTime wideBasis ∧
    1 ≤ entryDuration .ackLow (ready 20) ∧ reached .eomHigh (ready 20) = some (.ackLow, ready 20) ∧
    reached .ackVerify { wideBasis with resends := 4 } =
      some (.freeTime, { wideBasis with resends := 5, byte := 0, bit := 0 }) ∧
    1 ≤ entryDuration .freeTime { wideBasis with resends := 5, byte := 0, bit := 0 } ∧
    wideBasis.trig = true ∧ wideBasis.state = .named .idle ∧ wideBasis.len ≠ 0 ∧ 1 ≤ duration 6 wideBasis ∧
    1 ≤ duration 6 { waiting with clkBasis := 1 } := by decide

theorem test_witness_CursorEndStopsTheTransition :
    { waiting with byte := 16, bit := 7 }.faulted = false ∧ { waiting with byte := 16, bit := 7 }.bit = 7 ∧
    { waiting with byte := 16, bit := 7 }.byte = 16 := by decide

theorem test_witness_EveryEventKeepsTheInvariants :
    Sound { lastFreeTick with inputs := [0x03] } ∧
    nextOperation { lastFreeTick with inputs := [0x03] } = .ok (.poll, lastFreeTick) ∧ isEvent .poll = true ∧
    step { lastFreeTick with inputs := [0x03] } = .next { lastFreeTick with ret := .word 0 } :=
    ⟨test_lastFreeTick_sound, rfl, rfl, rfl⟩

theorem test_witness_EventsCompleteInSoundStates :
    Sound waiting ∧ waiting.trig = true ∧ Sound (ready 10000) ∧ (ready 10000).len = 0 ∧
    admitted (ready 10000).params (ready 10000).rom 20 = true ∧
    (ready 10000).inited = true := ⟨test_waiting_sound, rfl, test_ready_sound, rfl, by decide, rfl⟩

theorem test_witness_EveryStepKeepsTheRanges :
    step { verified with inputs := [0x03] } = .next { verified with ret := .word 0 } ∧
    { verified with inputs := [0x03] }.state ≠ .reserved ∧ WidthsHold { verified with inputs := [0x03] } :=
    ⟨rfl, by decide, by decide⟩

theorem test_witness_RegistersAreWrittenByTheirOwners :
    exec .poll verified = .next { verified with ret := .word 0 } ∧
    exec .tmrStop verified = .next { verified with tmrArmed := false, tmrCnt := 0 } ∧ Instr.tmrStop ≠ .reset ∧
    Instr.tmrStop ≠ .start := ⟨rfl, rfl, by decide, by decide⟩

theorem test_witness_TickAndStartExclude :
    Sound waiting ∧ waiting.trig = true ∧ Sound lastFreeTick ∧
    lastFreeTick.tmrArmed = true := ⟨test_waiting_sound, rfl, test_lastFreeTick_sound, rfl⟩

theorem test_witness_EveryExpiryShortensTheTransfer :
    Sound verified ∧ verified.state ≠ .named .idle ∧ verified.tmrCnt ≤ 1 ∧
    (verified.state = .named .ackVerify → verified.ack = true) :=
    ⟨test_verified_sound, by decide, by decide, fun _ => rfl⟩

theorem test_witness_AcknowledgedTransferSucceeds :
    Sound { lastFreeTick with followers := [false, false] } ∧ lastFreeTick.state = .named .freeTime ∧
    [false, false] = List.replicate lastFreeTick.len.val (ackLevel lastFreeTick) ++ [] :=
    ⟨test_lastFreeTick_sound, rfl, by decide⟩

theorem test_witness_UnacknowledgedTransferFails :
    Sound { lastFreeTick with followers := List.replicate 6 true } ∧ lastFreeTick.state = .named .freeTime ∧
    List.replicate 6 true = List.replicate (6 - lastFreeTick.resends.val) (!ackLevel lastFreeTick) ++ [] :=
    ⟨test_lastFreeTick_sound, rfl, by decide⟩

theorem test_witness_FixedTransitionsEnterTheirSuccessor :
    (ready 20).faulted = false ∧ TimerTakes (ready 20) (duration 0 (ready 20)) ∧ TimerTakes (ready 20) (duration 1 (ready 20)) ∧
    TimerTakes (ready 20) (duration 4 (ready 20)) ∧ duration 4 (ready 20) ≤ duration 9 (ready 20) ∧
    TimerTakes (ready 20) (duration 9 (ready 20) - duration 4 (ready 20)) := by decide

theorem test_witness_LineIsAWiredAnd :
    lastFreeTick.faulted = false ∧ lastFreeTick.followers = false :: [] ∧ waiting.faulted = false ∧ waiting.followers = [] := by decide

theorem test_witness_AckHighTransitionSamples :
    (ready 20).faulted = false ∧ duration 9 (ready 20) ≤ duration 8 (ready 20) ∧
    TimerTakes (ready 20) (duration 8 (ready 20) - duration 9 (ready 20)) ∧ (ready 20).followers = [] ∧
    { ready 20 with followers := [true] }.followers = true :: [] := by decide

theorem test_witness_IdleAndStartHighTransitions :
    waiting.faulted = false ∧ TimerTakes waiting (lowFor (curBit waiting) waiting) := by decide

/-- `FAULTED = 0` is the one hypothesis of PollReturnsAndClears, TimingEntriesReturnTheirTicks, SelectorsFollowTheBit,
CursorReset, CursorEndOfMessage and PostCombinesTheFlag. -/
theorem test_witness_live :
    lastFreeTick.faulted = false := by decide

theorem test_witness_FlagsAreKeptUntilDrained :
    exec .tmrStop verified = .next { verified with tmrArmed := false, tmrCnt := 0 } ∧ Instr.tmrStop ≠ .poll ∧
    Instr.tmrStop ≠ .reset := ⟨rfl, by decide, by decide⟩

theorem test_witness_EveryTransferEndsWithOneFlag :
    Sound verified ∧ verified.state ≠ .named .idle := ⟨test_verified_sound, by decide⟩

/-- Ticks alone from the last tick of the free time are a fair run with a message held; so one ends the transfer. -/
theorem test_witness_FairRunsEndEveryTransfer :
    ∃ run : Nat → State, FairRun (fun _ => .tick) run ∧ Sound (run 0) ∧ (run 0).len ≠ 0 ∧
      ∀ m : Nat, 0 ≤ m → (fun _ : Nat => Instr.tick) m ≠ .reset := by
  obtain ⟨run, h0, h⟩ := fairRun_of_sound test_lastFreeTick_sound rfl
  exact ⟨run, h, h0 ▸ test_lastFreeTick_sound, h0 ▸ by decide, fun _ _ => Instr.noConfusion⟩

/-- The parameters at which the view of POLL's word is stated. -/
theorem test_witness_PollViewNamesOneOutcome :
    Params.defaults.admissible = true ∧ { Params.defaults with okBit := 31, failedBit := 0 }.admissible = true := by
  decide

end Sys2Proof.Tests
end

section
/-! The state after reset. -/
namespace Sys2Proof.Machine

/-- Settles O7: each conjunct, in the order of the statement, is a field that `State.reset` fills with the value
10_state.md R41 lists. -/
theorem resetValuesOfTheRegisters : Obligations.ResetValuesOfTheRegisters :=
  ⟨rfl, rfl, rfl, rfl, rfl, rfl, rfl, rfl, rfl, rfl, rfl, rfl, rfl, rfl⟩

end Sys2Proof.Machine
end

section
/-! The timing selectors (40_timing_table.md R143, R144). -/
namespace Sys2Proof.Machine
open Sys2Proof.Spec

/-- An operation that only returns a value does, in a live block, nothing but write that value. -/
theorem whenLive_returning {s : State} (h : s.faulted = false) (r : State → Ret) :
    (whenLive s fun s => returning (r s) s) = .next { s with ret := r { s with ret := .nothing } } :=
  whenLive_live h _

/-- R143 in ROM entries: the low phase of a one is entry 4, that of a zero entry 2. -/
theorem lowTicks_eq_lowFor (v : Bit) (s : State) : lowTicks v s = lowFor v s := by
  cases v
  case false => rfl
  case true => rfl

/-- R144 in ROM entries: the high phase of a one is entry 5, that of a zero entry 3. -/
theorem highTicks_eq_highFor (v : Bit) (s : State) : highTicks v s = highFor v s := by
  cases v
  case false => rfl
  case true => rfl

theorem exec_lowTicks_of_live {s : State} (h : s.faulted = false) (v : Bit) :
    exec (.lowTicks v) s = .next { s with ret := .ticks (lowFor v s) } := by
  rw [← lowTicks_eq_lowFor]
  exact whenLive_returning h fun s => .ticks (lowTicks v s)

theorem exec_highTicks_of_live {s : State} (h : s.faulted = false) (v : Bit) :
    exec (.highTicks v) s = .next { s with ret := .ticks (highFor v s) } := by
  rw [← highTicks_eq_highFor]
  exact whenLive_returning h fun s => .ticks (highTicks v s)

/-- Settles O22: `lowFor` and `highFor` are the statement's two selections by the bit. -/
theorem selectorsFollowTheBit : Obligations.SelectorsFollowTheBit := fun _ v h =>
  ⟨exec_lowTicks_of_live h v, exec_highTicks_of_live h v⟩

end Sys2Proof.Machine
end

section
/-! The timeout transitions that only enter their one successor (43_fsm_transition.md R213, R214, R216, R218, R220 to
R222, R225). -/
namespace Sys2Proof.Machine
open Sys2Proof.Spec

/-- The TIMEOUT operation of a state runs, in a live block, the transition of that state. -/
theorem exec_timeoutInstr_of_live {s : State} (h : s.faulted = false) (f : Fsm) :
    exec (timeoutInstr f) s = timeout f { s with ret := .nothing } := by
  cases f <;> exact whenLive_live h _

/-- `ACK_HIGH_TICKS` in ROM entries, where the sample is not before the end of the low phase (40_timing_table.md
R145). -/
theorem ackHighTicks_eq_sub {s : State} (h : duration 4 s ≤ duration 9 s) :
    ackHighTicks s = duration 9 s - duration 4 s :=
  if_pos h

/-- The duration the entry of `f` arms the timer with, in ROM entries. -/
theorem entryTicks_eq_entryDuration (f : Fsm) (s : State) : entryTicks f s = entryDuration f s := by
  cases f
  case headerInitLow | headerDestLow | dataLow | eomLow => exact lowTicks_eq_lowFor _ s
  case headerInitHigh | headerDestHigh | dataHigh | eomHigh => exact highTicks_eq_highFor _ s
  all_goals rfl

/-- No duration depends on the value last returned. -/
theorem entryDuration_ret (f : Fsm) (s : State) (r : Ret) :
    entryDuration f { s with ret := r } = entryDuration f s := by
  cases f <;> rfl

/-- Entering a state whose duration the timer takes prepares the entry and arms the timer with just that duration. -/
theorem enter_of_timerTakes {f : Fsm} {s : State} (hf : f ≠ .idle) (h : TimerTakes s (entryDuration f s)) :
    enter f s = .next (loadTimer (entryDuration f s) (prepare f (setState f s))) := by
  obtain ⟨hpos, hlt⟩ := h
  rw [← entryTicks_eq_entryDuration] at hpos hlt ⊢
  rw [enter_eq fun _ => hpos, entered, if_neg hf, countFor_eq hlt]

/-- Where the transition of `f` is the entry of `g`, the TIMEOUT operation of `f` leaves what that entry leaves. -/
theorem exec_timeoutInstr_of_successor {f g : Fsm} {s : State} (h : s.faulted = false) (hg : g ≠ .idle)
    (hfg : timeout f = enter g) (ht : TimerTakes s (entryDuration g s)) :
    exec (timeoutInstr f) s =
      .next (loadTimer (entryDuration g s) (prepare g (setState g { s with ret := .nothing }))) := by
  rw [← entryDuration_ret g s .nothing] at ht ⊢
  rw [exec_timeoutInstr_of_live h, hfg]
  exact enter_of_timerTakes (s := { s with ret := .nothing }) hg ht

/-- Settles O33: each of the four transitions is the entry of its successor. Only `prepare .startLow` writes the cursor;
the duration of AckHigh is the difference of two ROM entries where it is a natural number. -/
theorem fixedTransitionsEnterTheirSuccessor : Obligations.FixedTransitionsEnterTheirSuccessor := by
  intro s h
  refine ⟨fun ht => ?_, fun ht => ?_, fun ht => ?_, fun hle ht => ?_⟩
  · exact exec_timeoutInstr_of_successor (f := .freeTime) (g := .startLow) h (by decide) rfl ht
  · exact exec_timeoutInstr_of_successor (f := .startLow) (g := .startHigh) h (by decide) rfl ht
  · exact exec_timeoutInstr_of_successor (f := .eomHigh) (g := .ackLow) h (by decide) rfl ht
  · rw [← ackHighTicks_eq_sub hle] at ht ⊢
    exact exec_timeoutInstr_of_successor (f := .ackLow) (g := .ackHigh) h (by decide) rfl ht

/-- Settles O35: each of the four transitions is the entry of the high phase of its own bit, and `prepare` writes only
the line there. -/
theorem cellTransitionsKeepTheCursor : Obligations.CellTransitionsKeepTheCursor := by
  intro s h
  refine ⟨fun ht => ⟨?_, ?_, ?_⟩, fun ht => ?_⟩
  · exact exec_timeoutInstr_of_successor (f := .headerInitLow) (g := .headerInitHigh) h (by decide) rfl ht
  · exact exec_timeoutInstr_of_successor (f := .headerDestLow) (g := .headerDestHigh) h (by decide) rfl ht
  · exact exec_timeoutInstr_of_successor (f := .dataLow) (g := .dataHigh) h (by decide) rfl ht
  · exact exec_timeoutInstr_of_successor (f := .eomLow) (g := .eomHigh) h (by decide) rfl ht

end Sys2Proof.Machine
end

section
/-! POLL and the level `evt_avail` (45_result_notifier.md R282, R283). -/
namespace Sys2Proof.Machine

/-- `evt_avail` is low exactly when no flag is set (R283). -/
theorem evtAvail_eq_false_iff {s : State} : evtAvail s = false ↔ s.pending = 0 := by
  simp [evtAvail]

/-- POLL in a live block returns the flag word and leaves the block with that word cleared. -/
theorem exec_poll_of_live {s : State} (h : s.faulted = false) :
    exec .poll s = .next { s with pending := 0, ret := .word s.pending } :=
  whenLive_live h fun s => returning (.word s.pending) (clearPending s)

/-- Settles O13: POLL keeps `FAULTED`, so the second POLL is the first one again, from a state whose flag word is 0. -/
theorem pollReturnsAndClears : Obligations.PollReturnsAndClears := by
  intro s h
  refine ⟨exec_poll_of_live h, ?_, ?_⟩
  · exact evtAvail_eq_false_iff.mpr rfl
  · exact exec_poll_of_live (s := { s with pending := 0, ret := .word s.pending }) h

end Sys2Proof.Machine
end

section
/-! The host's operations and the events in a live block (44_timer_adapter.md R253, R256, R257). -/
namespace Sys2Proof.Machine
open Sys2Proof.Spec

/-- What a TICK does in a live block (R253). -/
theorem exec_tick_of_live {s : State} (h : s.faulted = false) :
    exec .tick s =
      if s.tmrArmed = true then
        if s.tmrCnt ≤ 1 then expire { s with ret := .nothing }
        else .next { s with tmrCnt := s.tmrCnt - 1, ret := .nothing }
      else .next { s with ret := .nothing } := by
  simp only [exec, execTick, whenLive_live h]
  rfl

/-- The four answers of SEND in a live block, in the order R256 tries them. -/
theorem exec_send_of_live {s : State} (h : s.faulted = false) (bytes : List Byte) :
    exec (.send bytes) s =
      if (!s.inited) = true then .refused .notInitialised
      else if inProgress s = true then .next { s with ret := .send .busy }
      else if bytes.length < 1 ∨ 16 < bytes.length then .next { s with ret := .send .invalid }
      else .next { loadMessage bytes s with ret := .send .accepted } := by
  simp only [exec, execSend, whenLive_live h]
  rfl

/-- The three answers of INIT in a live block, in the order R257 tries them. -/
theorem exec_init_of_live {s : State} (h : s.faulted = false) (b : Nat) :
    exec (.init b) s =
      if inProgress s = true then .refused .initDuringTransfer
      else if admitted s.params s.rom b = true then .next { s with clkBasis := b, inited := true, ret := .nothing }
      else .refused .basisNotAdmitted := by
  simp only [exec, execInit, whenLive_live h]
  rfl

theorem inProgress_iff {s : State} : inProgress s = true ↔ s.len ≠ 0 := decide_eq_true_iff

/-- RESET completes in every state. -/
theorem exec_reset (s : State) : exec .reset s = .next { resetRegisters s with ret := .nothing } := rfl

/-- START that is not enabled is refused (R255; log 11). -/
theorem exec_start_not_enabled {s : State} (h : s.faulted = false) (ht : s.trig = false) :
    exec .start s = .refused .startNotEnabled := by
  simp only [exec, execStart, whenLive_live h]
  exact if_neg (by simp [ht])

/-- START from Idle with a message is the entry of FreeTime (R255). -/
theorem exec_start_enters {s : State} (h : s.faulted = false) (ht : s.trig = true) (hi : s.state = .named .idle)
    (hl : s.len ≠ 0) :
    exec .start s = enter .freeTime { s with trig := false, resends := 0, byte := 0, bit := 0, ret := .nothing } := by
  rw [exec_start h ht]
  simp only [hi]
  exact if_pos ⟨trivial, hl⟩

end Sys2Proof.Machine
end

section
/-! Soundness is kept by the six operations of a run (10_state.md R40, 44_timer_adapter.md R262). -/
namespace Sys2Proof.Machine

/-- The step takes its operation off the inputs or draws the hardware's; it writes no register. -/
theorem nextOperation_frame {s s' : State} {i : Instr} (h : nextOperation s = .ok (i, s')) :
    s' = { s with inputs := s'.inputs, draws := s'.draws } := by
  unfold nextOperation at h
  split at h
  · unfold hardwareEvent at h
    split at h <;> cases h <;> rfl
  · split at h <;> cases h
    rfl

/-- The state a step's operation runs in is sound where the state of the step is. -/
theorem nextOperation_sound {s s' : State} {i : Instr} (h : Sound s) (hn : nextOperation s = .ok (i, s')) :
    Sound s' := by
  have e := nextOperation_frame hn
  exact sound_congr h (by rw [e]) (by rw [e])

/-- A step that completes ran the operation it took. -/
theorem step_next {s t : State} (h : step s = .next t) :
    ∃ i s', nextOperation s = .ok (i, s') ∧ exec i s' = .next t := by
  unfold step at h
  split at h
  · exact ⟨_, _, ‹_›, h⟩
  · cases h

/-- The cursor is in its place in Idle, wherever it stands. -/
theorem cursorInPlace_of_idle {s : State} (h : InState .idle s) : CursorInPlace s := by
  simp [CursorInPlace, InState, h]

/-- A block at rest with no message and no basis is sound, whatever its flags, parameters and ROM. -/
theorem sound_of_resting {s : State} (hw : WidthsHold s) (hf : s.faulted = false) (hs : InState .idle s)
    (hl : s.len = 0) (hc : s.byte = 0 ∧ s.bit = 0 ∧ s.tmrArmed = false ∧ s.lineOut = true ∧ s.resends = 0) (ht : s.trig = false)
    (hn : s.inited = false) : Sound s := by
  have hrest := hc
  obtain ⟨hb, -, ha, ho, -⟩ := hc
  have hno : ¬ 1 ≤ s.len.val := by simp [hl]
  refine ⟨⟨by simp [hs], hf⟩, fun hne => absurd hs hne, fun _ => hrest, fun _ h => absurd h hno, fun h => ?_,
    ⟨by simp [hb], hw⟩, cursorInPlace_of_idle hs, ?_, fun h => absurd h hno, ?_, fun h => ?_⟩
  · simp [ht] at h
  · simp [LineFollowsState, InState, ho, hs]
  · simp [TimerFollowsState, ha, hs]
  · simp [hn] at h

/-- Settles O47: after reset the block is at rest. -/
theorem resetStateIsSound : Obligations.ResetStateIsSound :=
  sound_of_resting (by decide) rfl rfl rfl ⟨rfl, rfl, rfl, rfl, rfl⟩ rfl rfl

theorem reset_sound {s : State} (h : Sound s) : Sound { resetRegisters s with ret := .nothing } := by
  obtain ⟨-, -, -, -, -, ⟨-, hp, -⟩, -⟩ := h
  refine sound_of_resting ⟨hp, BitVec.isLt _, Nat.two_pow_pos _, ?_⟩ rfl rfl rfl ⟨rfl, rfl, rfl, rfl, rfl⟩ rfl rfl
  exact Nat.zero_or _

theorem poll_sound {s t : State} (h : Sound s) (e : exec .poll s = .next t) : Sound t := by
  obtain ⟨h0, h1, h2, h3, h4, ⟨h5, w1, w2, w3, -⟩, h6, h7, h8, h9, h10⟩ := h
  rw [poll_next e]
  exact ⟨h0, h1, h2, h3, h4, ⟨h5, w1, w2, w3, Nat.zero_or _⟩, h6, h7, h8, h9, h10⟩

/-- An admitted basis fits the register (log 15). -/
theorem basis_lt_of_admitted {p : Params} {rom : Vector Micros 10} {b : Nat} (h : admitted p rom b = true) :
    b < 2 ^ p.basisW := by
  simp only [admitted, Bool.and_eq_true, decide_eq_true_eq, and_assoc] at h
  exact h.1

/-- INIT keeps a sound state sound: it writes the basis and `INITED` together, and only an admitted basis. -/
theorem init_sound {s t : State} {b : Nat} (h : Sound s) (e : exec (.init b) s = .next t) : Sound t := by
  obtain ⟨h0, h1, h2, h3, h4, ⟨h5, w1, -, w3, w4⟩, h6, h7, -, h9, -⟩ := h
  obtain ⟨-, ha, e⟩ := init_next e
  rw [e]
  exact ⟨h0, h1, h2, h3, h4, ⟨h5, w1, basis_lt_of_admitted ha, w3, w4⟩, h6, h7, fun _ => rfl, h9, fun _ => ha⟩

/-- A block with no message is in Idle. -/
theorem idle_of_no_message {s : State} (h : Sound s) (hl : s.len = 0) : InState .idle s := by
  obtain ⟨-, hm, -⟩ := h
  by_contra hi
  have := hm hi
  simp [hl] at this

/-- A length from 1 to 16 is not truncated by the register. -/
theorem ofNat_length {n : Nat} (h : ¬ (n < 1 ∨ 16 < n)) : (Fin.ofNat 17 n).val = n :=
  Nat.mod_eq_of_lt (by omega)

/-- An accepted message in a sound block, which was in Idle, waits for its START. -/
theorem loadMessage_sound {s : State} {bytes : List Byte} (r : Ret) (h : Sound s) (hi : s.inited = true)
    (hl : s.len = 0) (hb : ¬ (bytes.length < 1 ∨ 16 < bytes.length)) : Sound { loadMessage bytes s with ret := r } := by
  have hs := idle_of_no_message h hl
  have hn := ofNat_length hb
  obtain ⟨h0, -, h2, -, -, ⟨-, w⟩, -, h7, -, h9, h10⟩ := h
  obtain ⟨hc, hk, -⟩ := h2 hs
  have hpos : 1 ≤ (Fin.ofNat 17 bytes.length).val := by omega
  exact ⟨h0, fun _ => hpos, h2, fun _ _ => rfl, fun _ => ⟨hs, hpos⟩, ⟨by simp [hc], w⟩,
    cursorInPlace_of_idle hs, h7, fun _ => hi, h9, h10⟩

theorem send_sound {s t : State} {bytes : List Byte} (h : Sound s) (e : exec (.send bytes) s = .next t) : Sound t := by
  rw [exec_send_of_live h.1.2] at e
  split at e
  · cases e
  · rename_i hi
    split at e
    · cases e; exact sound_congr h rfl (Nat.le_refl _)
    · rename_i hl
      split at e
      · cases e; exact sound_congr h rfl (Nat.le_refl _)
      · rename_i hb
        cases e
        exact loadMessage_sound _ h (by simpa using hi) (by simpa [inProgress_iff] using hl) hb

/-- The START of a waiting message: it completes, in FreeTime, and leaves a sound state with the same message. -/
theorem start_waiting {s : State} (h : Sound s) (ht : s.trig = true) :
    ∃ t, exec .start s = .next t ∧ Sound t ∧ t.state = .named .freeTime ∧ t.len = s.len := by
  obtain ⟨⟨-, hl⟩, -, -, -, htr, ⟨-, hw⟩, -, -, hmi, -, hb⟩ := h
  obtain ⟨hi, hlen⟩ := htr ht
  have hr : Running { s with trig := false, resends := 0, byte := 0, bit := 0, ret := .nothing } :=
    ⟨hl, hlen, rfl, hmi hlen, hb (hmi hlen), hw⟩
  refine ⟨_, ?_, sound_entered hr ⟨rfl, rfl⟩ (f := .freeTime) (by decide), entered_state _ _, entered_len _ _⟩
  rw [exec_start_enters hl ht hi (by rintro h0; simp [h0] at hlen)]
  exact enter_running hr (by decide)

theorem start_sound {s t : State} (h : Sound s) (e : exec .start s = .next t) : Sound t := by
  cases ht : s.trig with
  | false => rw [exec_start_not_enabled h.1.2 ht] at e; cases e
  | true =>
    obtain ⟨t', e', hs, -⟩ := start_waiting h ht
    cases e'.symm.trans e
    exact hs

/-- Each of the six operations of a run keeps a sound state sound. -/
theorem event_sound {s t : State} {i : Instr} (h : Sound s) (hi : isEvent i = true) (e : exec i s = .next t) :
    Sound t := by
  cases i
  case reset => cases e; exact reset_sound h
  case init b => exact init_sound h e
  case send bytes => exact send_sound h e
  case poll => exact poll_sound h e
  case start => exact start_sound h e
  case tick =>
    obtain ⟨t', e', hs⟩ := tick_sound h
    cases e'.symm.trans e
    exact hs
  all_goals cases hi

/-- Settles O48: taking the operation keeps the state sound, and so does running it. -/
theorem everyEventKeepsTheInvariants : Obligations.EveryEventKeepsTheInvariants := by
  intro s s' t i h hn hi hst
  obtain ⟨i', s'', hn', e⟩ := step_next hst
  cases hn.symm.trans hn'
  exact event_sound (nextOperation_sound h hn) hi e

/-- SEND after INIT completes, with one of its three results. -/
theorem send_completes {s : State} (hf : s.faulted = false) (hi : s.inited = true) (bytes : List Byte) :
    ∃ t, exec (.send bytes) s = .next t := by
  rw [exec_send_of_live hf, if_neg (by simp [hi])]
  split
  · exact ⟨_, rfl⟩
  · split
    · exact ⟨_, rfl⟩
    · exact ⟨_, rfl⟩

/-- Settles O49: a sound state is live, so each operation runs; TICK and START leave a sound, hence a live state. -/
theorem eventsCompleteInSoundStates : Obligations.EventsCompleteInSoundStates := by
  intro s h
  have hf := h.1.2
  refine ⟨⟨_, exec_reset s⟩, ⟨_, exec_poll_of_live hf⟩, ?_, fun ht => ?_, fun b hl ha => ?_, fun bytes hi =>
    send_completes hf hi bytes⟩
  · obtain ⟨t, e, hs⟩ := tick_sound h
    exact ⟨t, e, hs.1.2⟩
  · obtain ⟨t, e, -, hs, -⟩ := start_waiting h ht
    exact ⟨t, e, hs⟩
  · rw [exec_init_of_live hf, if_neg (by simp [inProgress_iff, hl]), if_pos ha]
    exact ⟨_, rfl⟩

/-- Settles O53: the trigger is set only in Idle, where the timer is disarmed. -/
theorem tickAndStartExclude : Obligations.TickAndStartExclude := by
  intro s h
  have hs := h
  obtain ⟨⟨-, hf⟩, -, -, -, htr, -, -, -, -, hta, -⟩ := h
  refine ⟨fun ht => tick_idles hs ?_, fun ha => exec_start_not_enabled hf ?_⟩
  · by_contra ha
    exact hta.mp (by simpa using ha) (htr ht).1
  · by_contra ht
    exact hta.mp ha (htr (by simpa using ht)).1

end Sys2Proof.Machine
end

section
/-! The byte form (30_encoding.md R90 to R104; log 2): reading what was written, and writing what was read. -/
namespace Sys2Proof

/-! ## Operands written, then read -/

theorem readBit_bitByte (v : Bit) (rest : List Byte) : readBit (bitByte v :: rest) = .ok (v, rest) := by
  cases v <;> rfl

theorem readFlag_flagByte (f : Flag) (rest : List Byte) : readFlag (flagByte f :: rest) = .ok (f, rest) := by
  cases f <;> rfl

theorem readNibble_setWidth (a : BitVec 4) (rest : List Byte) : readNibble (a.setWidth 8 :: rest) = .ok (a, rest) := by
  have hlt := a.isLt
  have hb : (a.setWidth 8).toNat = a.toNat := by simp; omega
  rw [readNibble, if_pos (by omega)]
  congr 2
  exact BitVec.eq_of_toNat_eq (by simp)

/-- The count byte of a message of at most 255 bytes holds its length. -/
theorem toNat_countByte {n : Nat} (h : n ≤ maxSendBytes) : (BitVec.ofNat 8 n).toNat = n := by
  rw [BitVec.toNat_ofNat]
  exact Nat.mod_eq_of_lt (Nat.lt_succ_of_le h)

theorem readMessage_count {bytes : List Byte} (h : bytes.length ≤ maxSendBytes) (rest : List Byte) :
    readMessage (BitVec.ofNat 8 bytes.length :: (bytes ++ rest)) = .ok (bytes, rest) := by
  simp only [readMessage, toNat_countByte h]
  rw [if_pos (by simp), List.take_left, List.drop_left]

/-- A number of 32 bits read back. -/
theorem readWord_ofNat {n : Nat} (h : n < 2 ^ 32) (mk : Nat → Instr) (rest : List Byte) :
    withOperand (fun w : Word => mk w.toNat) (readWord (wordBytes (BitVec.ofNat 32 n) ++ rest)) = .ok (mk n, rest) := by
  rw [readWord_wordBytes, withOperand, BitVec.toNat_ofNat, Nat.mod_eq_of_lt h]

/-- Settles O1: the first byte selects the operation, whose operand, where it has one, is read back as it was
written. -/
theorem decodeOfEncodeIsIdentity : Obligations.DecodeOfEncodeIsIdentity := by
  intro i rest h
  rw [encode, List.cons_append]
  cases i <;> rw [opcode]
  case init basis => exact readWord_ofNat (of_decide_eq_true h) .init rest
  case tmrArm n => exact readWord_ofNat (of_decide_eq_true h) .tmrArm rest
  case send bytes => exact congrArg (withOperand .send) (readMessage_count (of_decide_eq_true h) rest)
  case ticks us => exact congrArg (withOperand .ticks) (readMicros_microsBytes us rest)
  case lowTicks v => exact congrArg (withOperand .lowTicks) (readBit_bitByte v rest)
  case highTicks v => exact congrArg (withOperand .highTicks) (readBit_bitByte v rest)
  case lineSet v => exact congrArg (withOperand .lineSet) (readBit_bitByte v rest)
  case evtPost f => exact congrArg (withOperand .evtPost) (readFlag_flagByte f rest)
  case romRead a => exact congrArg (withOperand .romRead) (readNibble_setWidth a rest)
  all_goals rfl

/-! ## Bytes read, then written -/

/-- What it is for bytes to be the encoding of a well-formed operation. -/
def Encodes (bs : List Byte) (i : Instr) (rest : List Byte) : Prop := bs = encode i ++ rest ∧ i.wellFormed = true

/-- An operation of one byte. -/
theorem encodes_plain {op : Byte} {i : Instr} {rest : List Byte} (ho : op = opcode i) (hb : operandBytes i = [])
    (hw : i.wellFormed = true) : Encodes (op :: rest) i rest := by
  refine ⟨?_, hw⟩
  rw [ho, encode, hb]
  rfl

/-- An operation whose operand was read is well-formed and written as the bytes that were read. -/
theorem encodes_operand {α : Type} {op : Byte} {bs rest : List Byte} {i : Instr} {mk : α → Instr} {r : Read α}
    (h : withOperand mk r = .ok (i, rest))
    (hr : ∀ a, r = .ok (a, rest) → op = opcode (mk a) ∧ bs = operandBytes (mk a) ++ rest ∧ (mk a).wellFormed = true) :
    Encodes (op :: bs) i rest := by
  obtain ⟨a, ha, rfl⟩ := withOperand_ok h
  obtain ⟨ho, hb, hw⟩ := hr a ha
  exact ⟨by rw [ho, hb]; rfl, hw⟩

/-- A word read as a number is written back as it was read. -/
theorem ofNat_toNat_word {bs rest : List Byte} {w : Word} (h : readWord bs = .ok (w, rest)) :
    bs = wordBytes (BitVec.ofNat 32 w.toNat) ++ rest := by
  rw [BitVec.ofNat_toNat, BitVec.setWidth_eq]
  exact readWord_ok h

theorem decodeHost_encodes {op : Byte} {bs rest : List Byte} {i : Instr} (hi : op.toNat / 16 = 0)
    (h : decodeHost op bs = .ok (i, rest)) : Encodes (op :: bs) i rest := by
  have ho {n : Nat} (hn : op.toNat % 16 = n) : op = BitVec.ofNat 8 n := by
    simpa using opcode_of_halves op 0 n hi hn
  unfold decodeHost at h
  split at h
  case h_1 hn => cases h; exact encodes_plain (ho hn) rfl rfl
  case h_2 hn => exact encodes_operand h fun w hw => ⟨ho hn, ofNat_toNat_word hw, decide_eq_true w.isLt⟩
  case h_3 hn =>
    exact encodes_operand h fun w hw => ⟨ho hn, (readMessage_ok hw).1, decide_eq_true (readMessage_ok hw).2⟩
  case h_4 hn => cases h; exact encodes_plain (ho hn) rfl rfl
  case h_5 hn => cases h; exact encodes_plain (ho hn) rfl rfl
  case h_6 hn => cases h; exact encodes_plain (ho hn) rfl rfl
  case h_7 => cases h

theorem decodeUop_encodes {op : Byte} {bs rest : List Byte} {i : Instr} (hi : op.toNat / 16 = 2)
    (h : decodeUop op bs = .ok (i, rest)) : Encodes (op :: bs) i rest := by
  have ho {n : Nat} (hn : op.toNat % 16 = n) : op = BitVec.ofNat 8 (32 + n) := opcode_of_halves op 2 n hi hn
  unfold decodeUop at h
  split at h
  case h_1 hn => exact encodes_operand h fun _ hw => ⟨ho hn, readMicros_ok hw, rfl⟩
  case h_2 hn => exact encodes_operand h fun _ hw => ⟨ho hn, readBit_ok hw, rfl⟩
  case h_3 hn => exact encodes_operand h fun _ hw => ⟨ho hn, readBit_ok hw, rfl⟩
  case h_10 hn => exact encodes_operand h fun w hw => ⟨ho hn, ofNat_toNat_word hw, decide_eq_true w.isLt⟩
  case h_12 hn => exact encodes_operand h fun _ hw => ⟨ho hn, readBit_ok hw, rfl⟩
  case h_15 hn => exact encodes_operand h fun _ hw => ⟨ho hn, readFlag_ok hw, rfl⟩
  case h_16 hn => exact encodes_operand h fun _ hw => ⟨ho hn, readNibble_ok hw, rfl⟩
  case h_17 => cases h
  all_goals
    rename_i hn
    cases h
    exact encodes_plain (ho hn) rfl rfl

/-- The ROM operations stand at their addresses. -/
theorem romInstrs_get {n : Nat} {i : Instr} (h : romInstrs[n]? = some i) :
    opcode i = BitVec.ofNat 8 (16 + n) ∧ operandBytes i = [] ∧ i.wellFormed = true := by
  obtain ⟨hn, rfl⟩ := List.getElem?_eq_some_iff.mp h
  have hn' : n < 10 := hn
  interval_cases n <;> exact ⟨rfl, rfl, rfl⟩

/-- Each state stands at its code (30_encoding.md R91). -/
theorem stateOfCode_some {c : BitVec 4} {f : Fsm} (h : stateOfCode c = some f) : (stateCode f).toNat = c.toNat := by
  obtain ⟨hn, rfl⟩ := List.getElem?_eq_some_iff.mp h
  have hn' : c.toNat < 15 := hn
  generalize c.toNat = n at hn hn'
  interval_cases n <;> rfl

theorem timeoutInstr_bytes (f : Fsm) :
    opcode (timeoutInstr f) = BitVec.ofNat 8 (96 + (stateCode f).toNat) ∧ operandBytes (timeoutInstr f) = [] ∧
      (timeoutInstr f).wellFormed = true := by
  cases f <;> exact ⟨rfl, rfl, rfl⟩

theorem enterInstr_bytes (f : Fsm) :
    opcode (enterInstr f) = BitVec.ofNat 8 (112 + (stateCode f).toNat) ∧ operandBytes (enterInstr f) = [] ∧
      (enterInstr f).wellFormed = true := by
  cases f <;> exact ⟨rfl, rfl, rfl⟩

/-- Settles O2: by the format the high half of the first byte tells; within it the low half is the key. -/
theorem encodeOfDecodeIsIdentity : Obligations.EncodeOfDecodeIsIdentity := by
  intro bs rest i h
  change Encodes bs i rest
  have hcode {op : Byte} {f : Fsm} (hc : stateOfCode (op.setWidth 4) = some f) :
      op.toNat % 16 = (stateCode f).toNat := by
    rw [stateOfCode_some hc, BitVec.toNat_setWidth]
  unfold decode at h
  split at h
  · cases h
  · split at h
    case h_1 hf => exact decodeHost_encodes hf h
    case h_2 hf =>
      obtain ⟨hi, rfl⟩ := plain_ok h
      obtain ⟨ho, hb, hw⟩ := romInstrs_get hi
      exact encodes_plain ((opcode_of_halves _ 1 _ hf rfl).trans ho.symm) hb hw
    case h_3 hf => exact decodeUop_encodes hf h
    case h_4 hf =>
      obtain ⟨hi, rfl⟩ := plain_ok h
      obtain ⟨f, hc, rfl⟩ := Option.map_eq_some_iff.mp hi
      obtain ⟨ho, hb, hw⟩ := timeoutInstr_bytes f
      exact encodes_plain ((opcode_of_halves _ 6 _ hf (hcode hc)).trans ho.symm) hb hw
    case h_5 hf =>
      obtain ⟨hi, rfl⟩ := plain_ok h
      obtain ⟨f, hc, rfl⟩ := Option.map_eq_some_iff.mp hi
      obtain ⟨ho, hb, hw⟩ := enterInstr_bytes f
      exact encodes_plain ((opcode_of_halves _ 7 _ hf (hcode hc)).trans ho.symm) hb hw
    case h_6 => cases h

/-- Settles O3: the decoder evaluated on each of the nine words. -/
theorem keysOfTheTableDecode : Obligations.KeysOfTheTableDecode :=
  ⟨rfl, rfl, rfl, rfl, rfl, rfl, rfl, rfl, rfl⟩

end Sys2Proof
end

section
/-! Which operation a step runs (20_memory.md R67, 44_timer_adapter.md R262; log 1 to log 3). -/
namespace Sys2Proof.Machine

theorem nextOperation_of_decode {s : State} {i : Instr} {rest : List Byte} (h : decode s.inputs = .ok (i, rest)) :
    nextOperation s = .ok (i, { s with inputs := rest }) := by
  unfold nextOperation
  split
  · rename_i hin
    rw [hin] at h
    cases h
  · rename_i hin
    rw [hin] at h
    rw [h]

theorem nextOperation_of_decode_error {s : State} {e : DecodeError} (hne : s.inputs ≠ [])
    (h : decode s.inputs = .error e) : nextOperation s = .error (.undecodable e) := by
  unfold nextOperation
  split
  · contradiction
  · rename_i hin
    rw [hin] at h
    rw [h]

theorem step_of_nextOperation {s s' : State} {i : Instr} (h : nextOperation s = .ok (i, s')) : step s = exec i s' := by
  rw [step, h]

theorem step_of_nextOperation_error {s : State} {r : Refusal} (h : nextOperation s = .error r) :
    step s = .refused r := by
  rw [step, h]

/-- Settles O4: the inputs that decode are not empty, so they are what the step reads. -/
theorem stepRunsTheDecodedOperation : Obligations.StepRunsTheDecodedOperation := fun _ =>
  ⟨fun _ _ h => step_of_nextOperation (nextOperation_of_decode h),
    fun _ hne h => step_of_nextOperation_error (nextOperation_of_decode_error hne h)⟩

/-- A table word that decodes is laid down as the bytes of its operation, which is well-formed. -/
theorem tableInstrBytes_of_decode {nbits w : Nat} {i : Instr} (h : decodeTableWord nbits w = some i) :
    tableInstrBytes nbits w = encode i ∧ i.wellFormed = true := by
  cases hd : decode (tableBytes nbits w) with
  | error e => simp [decodeTableWord, hd] at h
  | ok read =>
    obtain ⟨i', rest⟩ := read
    obtain rfl : i' = i := by simpa [decodeTableWord, hd] using h
    exact ⟨by simp [tableInstrBytes, hd], (encodeOfDecodeIsIdentity _ _ _ hd).2⟩

/-- Settles O5: the word's bytes stand in front of the inputs and decode to the operation, which leaves the inputs as
they were. -/
theorem fetchedWordIsRun : Obligations.FetchedWordIsRun := by
  intro s nbits w i h
  obtain ⟨hb, hw⟩ := tableInstrBytes_of_decode h
  have hd : decode (s.withFetchWord nbits w).inputs = .ok (i, s.inputs) := by
    rw [State.withFetchWord, pushInput_inputs, hb]
    exact decodeOfEncodeIsIdentity i s.inputs hw
  exact step_of_nextOperation (nextOperation_of_decode hd)

/-- Settles O6: with no inputs the step takes the hardware's event. -/
theorem stepWithoutInputsIsHardware : Obligations.StepWithoutInputsIsHardware := by
  intro s hin
  have hn : nextOperation s = .ok (hardwareEvent s) := by rw [nextOperation, hin]
  have hs : step s = exec (hardwareEvent s).1 (hardwareEvent s).2 := step_of_nextOperation hn
  refine ⟨fun ht => ?_, fun ht => ?_⟩
  · rw [hs, hardwareEvent, if_neg (by simp [ht])]
  · rw [hs, hardwareEvent, if_pos ht]
    cases Config.startTaken s.draws
    · exact .inr rfl
    · exact .inl rfl

end Sys2Proof.Machine
end

section
/-! What an operation may write, over all operations: the ranges (10_state.md R21 to R34), the owners (20_memory.md R71)
and the flags (45_result_notifier.md R285). -/
namespace Sys2Proof.Machine

/-- RESET, INIT, SEND, START and POLL have effects of their own; every other operation keeps what `Kept` says. -/
theorem exec_cases {i : Instr} {s t : State} (h : exec i s = .next t) :
    i = .reset ∨ (∃ b, i = .init b) ∨ (∃ bytes, i = .send bytes) ∨ i = .start ∨ i = .poll ∨
      (i ≠ .poll ∧ (∀ b, i ≠ .init b) ∧ (∀ bytes, i ≠ .send bytes)) ∧ Kept s t := by
  by_cases h1 : i = .reset
  · exact .inl h1
  by_cases h2 : ∃ b, i = .init b
  · exact .inr (.inl h2)
  by_cases h3 : ∃ bytes, i = .send bytes
  · exact .inr (.inr (.inl h3))
  by_cases h4 : i = .start
  · exact .inr (.inr (.inr (.inl h4)))
  by_cases h5 : i = .poll
  · exact .inr (.inr (.inr (.inr (.inl h5))))
  push Not at h2 h3
  exact .inr (.inr (.inr (.inr (.inr ⟨⟨h5, h2, h3⟩, exec_kept h h1 h2 h3 h4 h5⟩))))

/-! ## The ranges -/

/-- `STATE` names a state and the registers fit their widths. -/
abbrev InRanges (s : State) : Prop := s.state ≠ .reserved ∧ WidthsHold s

theorem inRanges_of_kept {s t : State} (k : Kept s t) (h : InRanges s) : InRanges t := by
  obtain ⟨hs, hp, hb, hc, hf⟩ := h
  obtain ⟨kp, -, -, -, kb, -, -, -, kc, ks, kf⟩ := k
  refine ⟨?_, ?_, ?_, ?_, ?_⟩
  · rcases ks with e | hne
    · rwa [e]
    · exact hne
  · rwa [kp]
  · rwa [kb, kp]
  · rw [kp]
    exact kc hc
  · rw [kp]
    rcases kf with e | ⟨f, e⟩
    · rwa [e]
    · rw [e, Nat.or_assoc, flagMask_or, hf]

theorem inRanges_of_exec {i : Instr} {s t : State} (e : exec i s = .next t) (h : InRanges s) : InRanges t := by
  obtain ⟨hs, hp, hb, hc, hf⟩ := h
  rcases exec_cases e with rfl | ⟨b, rfl⟩ | ⟨bytes, rfl⟩ | rfl | rfl | ⟨-, k⟩
  · cases e
    exact ⟨StateReg.noConfusion, hp, BitVec.isLt _, Nat.two_pow_pos _, Nat.zero_or _⟩
  · obtain ⟨-, ha, e⟩ := init_next e
    rw [e]
    exact ⟨hs, hp, basis_lt_of_admitted ha, hc, hf⟩
  · rcases send_next e with e | ⟨-, e⟩ <;> rw [e] <;> exact ⟨hs, hp, hb, hc, hf⟩
  · exact inRanges_of_kept (start_kept e) ⟨hs, hp, hb, hc, hf⟩
  · rw [poll_next e]
    exact ⟨hs, hp, hb, hc, Nat.zero_or _⟩
  · exact inRanges_of_kept k ⟨hs, hp, hb, hc, hf⟩

/-- Settles O50: taking the operation writes no register, and running it keeps the ranges. -/
theorem everyStepKeepsTheRanges : Obligations.EveryStepKeepsTheRanges := by
  intro s t hst h
  obtain ⟨i, s', hn, e⟩ := step_next hst
  refine inRanges_of_exec e ?_
  rw [nextOperation_frame hn]
  exact h

/-! ## The owners -/

/-- Settles O51: the five operations with effects of their own one by one, every other one by `Kept`. -/
theorem registersAreWrittenByTheirOwners : Obligations.RegistersAreWrittenByTheirOwners := by
  intro i s t e
  rcases exec_cases e with rfl | ⟨b, rfl⟩ | ⟨bytes, rfl⟩ | rfl | rfl | ⟨⟨hp, hi, hs⟩, k⟩
  · cases e
    exact ⟨rfl, rfl, rfl, fun h => absurd rfl h, fun h => absurd rfl h, fun h => absurd rfl h, by simp⟩
  · obtain ⟨-, -, e⟩ := init_next e
    rw [e]
    exact ⟨rfl, rfl, rfl, fun _ _ => rfl, fun _ h => absurd rfl (h b), fun _ _ _ => rfl,
      fun _ => ⟨rfl, rfl, rfl, rfl, rfl, rfl, rfl, rfl, rfl, rfl⟩⟩
  · rcases send_next e with e | ⟨-, e⟩ <;> rw [e] <;>
    exact ⟨rfl, rfl, rfl, fun _ h => absurd rfl (h bytes), fun _ _ => ⟨rfl, rfl⟩, fun _ _ h => absurd rfl (h bytes),
      fun _ => ⟨rfl, rfl, rfl, rfl, rfl, rfl, rfl, rfl, rfl, rfl⟩⟩
  · have k := start_kept e
    exact ⟨k.params, k.rom, k.inputs, fun _ _ => k.msg, fun _ _ => ⟨k.basis, k.inited⟩, fun _ h => absurd rfl h,
      by simp⟩
  · rw [poll_next e]
    exact ⟨rfl, rfl, rfl, fun _ _ => rfl, fun _ _ => ⟨rfl, rfl⟩, fun _ _ _ => rfl,
      fun _ => ⟨rfl, rfl, rfl, rfl, rfl, rfl, rfl, rfl, rfl, rfl⟩⟩
  · refine ⟨k.params, k.rom, k.inputs, fun _ _ => k.msg, fun _ _ => ⟨k.basis, k.inited⟩, fun _ _ _ => k.trig, ?_⟩
    rintro (h | ⟨b, h⟩ | ⟨bytes, h⟩)
    · exact absurd h hp
    · exact absurd h (hi b)
    · exact absurd h (hs bytes)

/-! ## The flags -/

/-- A word with more flags set holds every flag of the first. -/
theorem and_or_self_eq (a b : Nat) : a &&& (a ||| b) = a := by
  apply Nat.eq_of_testBit_eq
  intro j
  rw [Nat.testBit_and, Nat.testBit_or]
  exact inf_sup_self

theorem flags_of_kept {s t : State} (k : Kept s t) : s.pending &&& t.pending = s.pending := by
  rcases k.pend with e | ⟨f, e⟩
  · rw [e, Nat.and_self]
  · rw [e, and_or_self_eq]

/-- Settles O52: a flag is only ever ORed into the word, or the word is not written. -/
theorem flagsAreKeptUntilDrained : Obligations.FlagsAreKeptUntilDrained := by
  intro i s t e hp hr
  rcases exec_cases e with rfl | ⟨b, rfl⟩ | ⟨bytes, rfl⟩ | rfl | rfl | ⟨-, k⟩
  · exact absurd rfl hr
  · obtain ⟨-, -, e⟩ := init_next e
    rw [e, Nat.and_self]
  · rcases send_next e with e | ⟨-, e⟩ <;> rw [e, Nat.and_self]
  · exact flags_of_kept (s := { s with trig := t.trig }) (start_kept e)
  · exact absurd rfl hp
  · exact flags_of_kept k

end Sys2Proof.Machine
end

section
/-! Ticks one after another: the count down to the expiry (44_timer_adapter.md R253). -/
namespace Sys2Proof.Machine

theorem runTicks_add (m n : Nat) (s : State) : runTicks (m + n) s = andThen (runTicks m s) (runTicks n) := by
  induction m generalizing s with
  | zero => rw [Nat.zero_add]; rfl
  | succ m ih =>
    rw [Nat.succ_add]
    simp only [runTicks]
    cases exec .tick s with
    | next t => exact ih t
    | fault r => rfl
    | refused r => rfl

theorem runTicks_one (s : State) : runTicks 1 s = exec .tick s := by
  simp only [runTicks]
  cases exec .tick s <;> rfl

/-- Settles O15: the two branches of a TICK that run no transition. -/
theorem tickCountsDown : Obligations.TickCountsDown := by
  intro s h
  refine ⟨fun ha => ?_, fun ha hc => ?_⟩
  · rw [exec_tick_of_live h, if_neg (by simp [ha])]
  · rw [exec_tick_of_live h, if_pos ha, if_neg (by omega)]

/-- Settles O17: the TIMEOUT operation of a state is its transition, which the expiry runs with the timer spent. -/
theorem expiryRunsTheTransitionOfTheState : Obligations.ExpiryRunsTheTransitionOfTheState := by
  intro s f h hf ha hc
  rw [exec_tick_of_live h, if_pos ha, if_pos hc,
    expire_named (s := { s with ret := .nothing }) hf,
    exec_timeoutInstr_of_live (s := { s with tmrArmed := false, tmrCnt := 0 }) h]
  rfl

/-- Before the last tick the ticks only count down. -/
theorem runTicks_counts_down {s : State} (h : s.faulted = false) (ha : s.tmrArmed = true) {n : Nat} (h1 : 1 ≤ n)
    (hn : n < s.tmrCnt) : runTicks n s = .next { s with tmrCnt := s.tmrCnt - n, ret := .nothing } := by
  induction n, h1 using Nat.le_induction with
  | base => rw [runTicks_one, (tickCountsDown s h).2 ha hn]
  | succ n h1 ih =>
    rw [runTicks_add, ih (by omega), andThen_of_next, runTicks_one]
    have htwo : 2 ≤ s.tmrCnt - n := by omega
    rw [← Nat.sub_sub]
    exact (tickCountsDown { s with tmrCnt := s.tmrCnt - n, ret := .nothing } h).2 ha htwo

/-- The TIMEOUT operations do not read the value last returned. -/
theorem exec_timeoutInstr_ret {s : State} (h : s.faulted = false) (f : Fsm) (r : Ret) :
    exec (timeoutInstr f) { s with ret := r } = exec (timeoutInstr f) s :=
  (exec_timeoutInstr_of_live (s := { s with ret := r }) h f).trans (exec_timeoutInstr_of_live h f).symm

/-- Settles O16: the count down ends at the count 1, with which the next tick is the expiry. -/
theorem armedTimerExpiresAtItsLastTick : Obligations.ArmedTimerExpiresAtItsLastTick := by
  intro s f h hf ha
  refine ⟨fun n h1 hn => runTicks_counts_down h ha h1 hn, fun h1 => ?_⟩
  by_cases hc : s.tmrCnt ≤ 1
  · rw [show s.tmrCnt = 1 by omega, runTicks_one]
    exact expiryRunsTheTransitionOfTheState s f h hf ha hc
  · obtain ⟨n, hn⟩ : ∃ n, s.tmrCnt = n + 1 := ⟨s.tmrCnt - 1, by omega⟩
    rw [hn, runTicks_add, runTicks_counts_down h ha (by omega) (by omega), andThen_of_next, runTicks_one]
    have hlast := expiryRunsTheTransitionOfTheState { s with tmrCnt := s.tmrCnt - n, ret := .nothing } f h hf ha
      (by show s.tmrCnt - n ≤ 1; omega)
    exact hlast.trans (exec_timeoutInstr_ret (s := { s with tmrArmed := false, tmrCnt := 0 }) h f .nothing)

/-- A sound state with the timer armed ticks down to its last tick, in less than `2^TIMER_W` ticks. -/
theorem runs_to_last_tick {s : State} (h : Sound s) (ha : s.tmrArmed = true) :
    ∃ n s', n < 2 ^ s.params.timerW ∧ runTicks n s = .next s' ∧ Sound s' ∧ s'.tmrCnt ≤ 1 ∧
      s' = { s with tmrCnt := s'.tmrCnt, ret := s'.ret } := by
  by_cases hc : s.tmrCnt ≤ 1
  · exact ⟨0, s, Nat.two_pow_pos _, rfl, h, hc, rfl⟩
  · have hw : s.tmrCnt < 2 ^ s.params.timerW := by
      obtain ⟨-, -, -, -, -, ⟨-, -, -, hw, -⟩, -⟩ := h
      exact hw
    refine ⟨s.tmrCnt - 1, { s with tmrCnt := s.tmrCnt - (s.tmrCnt - 1), ret := .nothing }, by omega,
      runTicks_counts_down h.1.2 ha (by omega) (by omega), sound_congr h rfl (Nat.sub_le _ _), ?_, rfl⟩
    show s.tmrCnt - (s.tmrCnt - 1) ≤ 1
    omega

/-- A transfer in progress ticks on to its next expiry, which keeps the parameters, in at most `2^TIMER_W` ticks. -/
theorem runs_to_expiry {s : State} {f : Fsm} (h : Sound s) (hf : s.state = .named f) (hi : f ≠ .idle) :
    ∃ n t, n ≤ 2 ^ s.params.timerW ∧ runTicks n s = .next t ∧ Sound t ∧ t.params = s.params ∧
      Expiry f (spent s) (.next t) := by
  obtain ⟨n, s', hn, hrun, hs, hc, e⟩ := runs_to_last_tick h (armed_of_sound h hf hi)
  obtain ⟨t, ht, hst, hx⟩ := tick_expiry hs (by rw [e]; exact hf) hi hc
  refine ⟨n + 1, t, hn, ?_, hst, ?_, ?_⟩
  · rw [runTicks_add, hrun, andThen_of_next, runTicks_one, ht]
  · have k := exec_kept ht (by decide) (by simp) (by simp) (by decide) (by decide)
    rw [k.params, e]
  · have hsp : spent s' = spent s := by rw [e]; rfl
    rwa [hsp] at hx

end Sys2Proof.Machine
end

section
/-! How a transfer comes to its end (43_fsm_transition.md R228). -/
namespace Sys2Proof.Machine

/-- Spending the timer leaves the rest of the frame as long as it was. -/
theorem frameLeft_spent {s : State} {f : Fsm} (hf : s.state = .named f) :
    frameLeft { spent s with state := .named f } = frameLeft s := by
  rw [← hf]
  rfl

theorem timeoutsLeft_busy {s : State} {f : Fsm} (hf : s.state = .named f) (hi : f ≠ .idle) :
    timeoutsLeft s = frameLeft s + (5 - s.resends.val) * frameTimeouts s.len.val := by
  rw [timeoutsLeft, if_neg (by simp [hf, hi])]

/-- In AckVerify the blocks after the sampled one are left, and this timeout. -/
theorem frameLeft_ackVerify {s : State} (hf : s.state = .named .ackVerify) :
    frameLeft s = 1 + 21 * (s.len.val - s.byte.val) := by
  simp only [frameLeft, hf]

/-- An expiry leaves fewer timeouts to go, and of the frame just one less unless it starts the frame again. -/
theorem Expiry.shortens {s t : State} {f : Fsm} (hf : s.state = .named f) (hi : f ≠ .idle)
    (hx : Expiry f (spent s) (.next t)) :
    timeoutsLeft t < timeoutsLeft s ∧
      ((s.state = .named .ackVerify → s.ack = true) → frameLeft t + 1 = frameLeft s) := by
  rw [timeoutsLeft_busy hf hi]
  cases hx with
  | cell g s1 hg hr hp hl hres hpend hfo hack hmsg hfl hk hgf hfg hge =>
    rw [frameLeft_spent hf] at hfl
    have hl' : s1.len = s.len := hl
    have hres' : s1.resends = s.resends := hres
    rw [timeoutsLeft_busy (entered_state g s1) hg, entered_len, entered_resends, hl', hres']
    exact ⟨by omega, fun _ => hfl⟩
  | resend hv ha hr hrun =>
    subst hv
    have hr' : s.resends.val < 5 := hr
    have ha' : s.ack = false := ha
    refine ⟨?_, fun h => by simp [h hf] at ha'⟩
    rw [timeoutsLeft_busy (entered_state _ _) (by decide), entered_len, entered_resends, frameLeft_ackVerify hf]
    have hfull : frameLeft (entered .freeTime (resetCursor (setResends ((spent s).resends + 1) (spent s)))) =
        frameTimeouts s.len.val := rfl
    have hone : 5 - s.resends.val = 5 - (s.resends + 1).val + 1 := by rw [resends_add hr']; omega
    have hmul : (5 - s.resends.val) * frameTimeouts s.len.val =
        (5 - (s.resends + 1).val) * frameTimeouts s.len.val + frameTimeouts s.len.val := by rw [hone, Nat.succ_mul]
    rw [hfull, hmul]
    show frameTimeouts s.len.val + (5 - (s.resends + 1).val) * frameTimeouts s.len.val < _
    omega
  | ok hv ha hb =>
    subst hv
    have hb' : s.byte = s.len := hb
    rw [frameLeft_ackVerify hf, hb', Nat.sub_self]
    refine ⟨?_, fun _ => rfl⟩
    show 0 < _
    omega
  | failed hv ha hr =>
    subst hv
    have ha' : s.ack = false := ha
    refine ⟨?_, fun h => by simp [h hf] at ha'⟩
    rw [frameLeft_ackVerify hf]
    show 0 < _
    omega

/-- Settles O54: the expiry completes, and `Expiry.shortens` measures what it leaves. -/
theorem everyExpiryShortensTheTransfer : Obligations.EveryExpiryShortensTheTransfer := by
  intro s h hne hc
  cases hf : s.state with
  | reserved => exact absurd hf h.1.1
  | named f =>
    have hi : f ≠ .idle := by rintro rfl; exact hne hf
    obtain ⟨t, ht, hst, hx⟩ := tick_expiry h hf hi hc
    obtain ⟨hlt, hone⟩ := hx.shortens hf hi
    rw [hf] at hone
    exact ⟨t, ht, hst, hlt, hone⟩

theorem flagWord_sendOk (p : Params) : flagWord p .sendOk = 2 ^ p.okBit := rfl
theorem flagWord_sendFailed (p : Params) : flagWord p .sendFailed = 2 ^ p.failedBit := rfl

/-- The transfer of `s` has ended in `t` with the flag: Idle, no message, the flag posted. -/
structure EndsWith (flag : Flag) (s t : State) : Prop where
  idle : t.state = .named .idle
  len : t.len = 0
  resends : t.resends = 0
  pending : t.pending = s.pending ||| flagWord s.params flag
  followers : t.followers = s.followers

/-- The transfer of `s`, in AckVerify, ends in `t`: acknowledged to its last byte, or with its resends used up. -/
def Ends (s t : State) : Prop :=
  (s.ack = true ∧ s.byte = s.len ∧ EndsWith .sendOk s t) ∨
    (s.ack = false ∧ s.resends.val = 5 ∧ EndsWith .sendFailed s t)

/-- After an expiry the transfer goes on with no flag posted, or it has ended out of AckVerify. -/
theorem Expiry.goes_on_or_ends {s t : State} {f : Fsm} (hx : Expiry f (spent s) (.next t)) :
    (t.state ≠ .named .idle ∧ t.pending = s.pending) ∨ (f = .ackVerify ∧ Ends s t) := by
  cases hx with
  | cell g s1 hg hr hp hl hres hpend hfo hack hmsg hfl hk hgf hfg hge =>
    exact .inl ⟨by simp [hg], by rw [entered_pending, hpend]; rfl⟩
  | resend hv ha hr hrun => exact .inl ⟨by simp, by rw [entered_pending]; rfl⟩
  | ok hv ha hb => exact .inr ⟨hv, .inl ⟨ha, hb, rfl, rfl, rfl, rfl, rfl⟩⟩
  | failed hv ha hr => exact .inr ⟨hv, .inr ⟨ha, hr, rfl, rfl, rfl, rfl, rfl⟩⟩

/-- A property that every expiry keeps until the transfer ends. -/
def KeptInTransfer (P : State → Prop) : Prop :=
  ∀ (f : Fsm) (s t : State), Sound s → s.state = .named f → f ≠ .idle → P s → Expiry f (spent s) (.next t) →
    t.state ≠ .named .idle → P t

/-- Every transfer ends, within `2^TIMER_W` ticks for each timeout left, and a property kept in it holds of the state
whose expiry ends it. -/
theorem runs_to_end {P : State → Prop} (hP : KeptInTransfer P) (s : State) (h : Sound s)
    (hne : s.state ≠ .named .idle) (hs : P s) :
    ∃ (n : Nat) (s0 t : State), n ≤ timeoutsLeft s * 2 ^ s.params.timerW ∧ runTicks n s = .next t ∧ Sound t ∧
      s0.pending = s.pending ∧ s0.params = s.params ∧ s0.state = .named .ackVerify ∧ P s0 ∧ Ends s0 t := by
  induction hm : timeoutsLeft s using Nat.strong_induction_on generalizing s with
  | _ m ih =>
    cases hf : s.state with
    | reserved => exact absurd hf h.1.1
    | named f =>
      have hi : f ≠ .idle := by rintro rfl; exact hne hf
      obtain ⟨n, t, hn, hrun, hst, hp, hx⟩ := runs_to_expiry h hf hi
      have hlt : timeoutsLeft t < m := hm ▸ (hx.shortens hf hi).1
      have hmul : (timeoutsLeft t + 1) * 2 ^ s.params.timerW ≤ m * 2 ^ s.params.timerW := Nat.mul_le_mul_right _ hlt
      rw [Nat.succ_mul] at hmul
      rcases hx.goes_on_or_ends with ⟨hbusy, hpend⟩ | ⟨rfl, hend⟩
      · obtain ⟨n', s0, t', hn', hrun', hst', hpend', hp', hv, hP0, hend⟩ :=
          ih _ hlt t hst hbusy (hP f s t h hf hi hs hx hbusy) rfl
        rw [hp] at hn'
        refine ⟨n + n', s0, t', by omega, ?_, hst', hpend'.trans hpend, hp'.trans hp, hv, hP0, hend⟩
        rw [runTicks_add, hrun, andThen_of_next, hrun']
      · exact ⟨n, s, t, by omega, hrun, hst, rfl, rfl, hf, hs, hend⟩

/-- Settles O55: `runs_to_end` with no property to keep. -/
theorem everyTransferEndsWithOneFlag : Obligations.EveryTransferEndsWithOneFlag := by
  intro s h hne
  obtain ⟨n, s0, t, hn, hrun, hst, hpend, hp, -, -, hend⟩ :=
    runs_to_end (P := fun _ => True) (fun _ _ _ _ _ _ _ _ _ => trivial) s h hne trivial
  rcases hend with ⟨-, -, e⟩ | ⟨-, -, e⟩
  · exact ⟨n, t, hn, hrun, hst, e.idle, e.len, e.resends, .inl (by rw [e.pending, hpend, hp, flagWord_sendOk])⟩
  · exact ⟨n, t, hn, hrun, hst, e.idle, e.len, e.resends, .inr (by rw [e.pending, hpend, hp, flagWord_sendFailed])⟩

/-! ## The samples of a transfer -/

/-- The level whose sample records `v` in `ACK`. -/
def levelFor (v : Bit) (s : State) : Bit := if v then ackLevel s else !ackLevel s

theorem ackOf_levelFor (v : Bit) (s : State) : ackOf (destNibble s) (levelFor v s) = v := by
  by_cases hd : destNibble s = Config.broadcast <;> cases v <;> simp [ackOf, levelFor, ackLevel, hd]

/-- The next `count s` samples record `v`, and the one just taken did. -/
structure Answered (v : Bit) (count : State → Nat) (rest : List Bit) (s : State) : Prop where
  followers : s.followers = List.replicate (count s) (levelFor v s) ++ rest
  ack : s.state = .named .ackVerify → s.ack = v

theorem levelFor_congr {s t : State} (h : t.msg = s.msg) (v : Bit) : levelFor v t = levelFor v s := by
  rw [levelFor, levelFor, ackLevel, ackLevel, destNibble, destNibble, h]

/-- The sample on a released line records the followers' level. -/
theorem entered_ackVerify_sample {s : State} {l : Bit} {ls : List Bit} (hl : s.lineOut = true)
    (hf : s.followers = l :: ls) :
    (entered .ackVerify s).ack = ackOf (destNibble s) l ∧ (entered .ackVerify s).followers = ls := by
  simp [entered, prepare, sampleAck_eq, lineGet_fst, busLevel, drawFollower, destNibble, hl, hf]

/-- The next state of the same frame takes a sample exactly out of AckHigh. -/
theorem answered_of_cell {v : Bit} {count : State → Nat} {rest : List Bit} {f g : Fsm} {s s1 : State} (h : Sound s)
    (hf : s.state = .named f) (ha : Answered v count rest s) (hmsg : s1.msg = s.msg) (hfo : s1.followers = s.followers)
    (hgf : g = .ackVerify → f = .ackHigh ∧ s1 = spent s) (hfg : f = .ackHigh → g = .ackVerify)
    (hcount : count s = count (entered g s1) + if f = .ackHigh then 1 else 0) :
    Answered v count rest (entered g s1) := by
  have hfs := ha.followers
  have hlev := levelFor_congr (v := v) ((entered_msg g s1).trans hmsg)
  by_cases hg : g = .ackVerify
  · obtain ⟨rfl, rfl⟩ := hgf hg
    subst hg
    rw [hcount, if_pos rfl, List.replicate_succ, List.cons_append] at hfs
    have hline : (spent s).lineOut = true := by
      obtain ⟨-, -, -, -, hline⟩ := resident_of_sound h hf (by decide)
      exact hline
    obtain ⟨hack, hfo'⟩ := entered_ackVerify_sample (s := spent s) hline hfs
    exact ⟨by rw [hfo', hlev], fun _ => hack.trans (ackOf_levelFor v s)⟩
  · have hnf : f ≠ .ackHigh := fun hh => hg (hfg hh)
    rw [hcount, if_neg hnf, Nat.add_zero] at hfs
    exact ⟨by rw [(entered_followers hg s1).1, hfo, hlev, hfs], by simp [hg]⟩

/-! ## A transfer every sample of which acknowledges -/

/-- Samples still to be taken of a frame that is acknowledged: one a block, 2 timeouts before the block's end; the free
time and the start bit take none. -/
def samplesLeft (s : State) : Nat := min s.len.val ((frameLeft s + 19) / 21)

/-- Out of AckHigh alone the rest of the frame comes to 2 timeouts of a block. -/
theorem frameLeft_off_sample {s : State} {f : Fsm} (h : Sound s) (hf : s.state = .named f) (hi : f ≠ .idle)
    (ha : f ≠ .ackHigh) : frameLeft s % 21 ≠ 2 ∨ 21 * s.len.val < frameLeft s := by
  obtain ⟨hr, hp⟩ := resident_of_sound h hf hi
  have hlen : 1 ≤ s.len.val := hr.hasMessage
  have hbit := s.bit.isLt
  cases f
  case idle => exact absurd rfl hi
  case ackHigh => exact absurd rfl ha
  case freeTime | startLow | startHigh => right; simp only [frameLeft, frameTimeouts, hf]; omega
  case headerInitLow | headerInitHigh =>
    obtain ⟨hb, hk⟩ : s.byte = 0 ∧ s.bit.toNat ≤ 3 := hp
    left; simp only [frameLeft, hf, hb, Fin.val_zero]; omega
  case headerDestLow | headerDestHigh =>
    obtain ⟨hb, hk⟩ : s.byte = 0 ∧ 4 ≤ s.bit.toNat := hp
    left; simp only [frameLeft, hf, hb, Fin.val_zero]; omega
  case dataLow | dataHigh =>
    obtain ⟨hb, hk⟩ : 1 ≤ s.byte.val ∧ s.byte.val < s.len.val := hp
    left; simp only [frameLeft, hf]; omega
  case eomLow | eomHigh | ackLow | ackVerify => left; simp only [frameLeft, hf]; omega

/-- Out of AckHigh, and only there, a timeout of the frame takes a sample off the count. -/
theorem samplesLeft_step {s t : State} {f : Fsm} (h : Sound s) (hf : s.state = .named f) (hi : f ≠ .idle)
    (hlen : t.len = s.len) (hone : frameLeft t + 1 = frameLeft s) :
    samplesLeft s = samplesLeft t + if f = .ackHigh then 1 else 0 := by
  simp only [samplesLeft, hlen]
  split
  · rename_i ha
    subst ha
    obtain ⟨-, -, hb, hle, -⟩ := resident_of_sound h hf (by decide)
    have hb : 1 ≤ s.byte.val := hb
    have hle : s.byte.val ≤ s.len.val := hle
    have hleft : frameLeft s = 2 + 21 * (s.len.val - s.byte.val) := by simp only [frameLeft, hf]
    omega
  · rename_i ha
    have hoff := frameLeft_off_sample h hf hi ha
    omega

theorem acknowledged_kept (rest : List Bit) : KeptInTransfer (Answered true samplesLeft rest) := by
  intro f s t h hf hi ha hx hbusy
  cases hx with
  | cell g s1 hg hr hp hl hres hpend hfo hack hmsg hfl hk hgf hfg hge =>
    rw [frameLeft_spent hf] at hfl
    exact answered_of_cell h hf ha hmsg hfo hgf hfg (samplesLeft_step h hf hi ((entered_len g s1).trans hl) hfl)
  | resend hv hack hr hrun =>
    subst hv
    exact absurd ((ha.ack hf).symm.trans hack) (by decide)
  | ok hv hack hb => exact absurd rfl hbusy
  | failed hv hack hr => exact absurd rfl hbusy

/-- Settles O56: the samples left are `LEN` at the start and 0 at the end. -/
theorem acknowledgedTransferSucceeds : Obligations.AcknowledgedTransferSucceeds := by
  intro s rest h hf hfo
  have hs : Answered true samplesLeft rest s := by
    refine ⟨?_, fun hv => by rw [hf] at hv; cases hv⟩
    have hcount : samplesLeft s = s.len.val := by simp only [samplesLeft, frameLeft, frameTimeouts, hf]; omega
    rw [hcount]
    exact hfo
  obtain ⟨n, s0, t, -, hrun, -, hpend, hp, hv, ha, hend⟩ :=
    runs_to_end (acknowledged_kept rest) s h (by simp [hf]) hs
  rcases hend with ⟨-, hb, e⟩ | ⟨hack, -, -⟩
  · refine ⟨n, t, hrun, e.idle, e.len, e.resends, by rw [e.pending, hpend, hp, flagWord_sendOk], ?_⟩
    have hnone : samplesLeft s0 = 0 := by simp [samplesLeft, frameLeft_ackVerify hv, hb]
    rw [e.followers, ha.followers, hnone]
    rfl
  · exact absurd ((ha.ack hv).symm.trans hack) (by decide)

/-! ## A transfer no sample of which acknowledges -/

/-- Frames still to be sampled when each ends with its first sample; in AckVerify this frame's has been taken. -/
def framesLeft (s : State) : Nat := (if s.state = .named .ackVerify then 5 else 6) - s.resends.val

theorem unacknowledged_kept (rest : List Bit) : KeptInTransfer (Answered false framesLeft rest) := by
  intro f s t h hf hi ha hx hbusy
  have hres5 := s.resends.isLt
  cases hx with
  | cell g s1 hg hr hp hl hres hpend hfo hack hmsg hfl hk hgf hfg hge =>
    refine answered_of_cell h hf ha hmsg hfo hgf hfg ?_
    have hnv : f ≠ .ackVerify := by
      rintro rfl
      exact absurd ((ha.ack hf).symm.trans (hk rfl)) (by decide)
    have hres' : s1.resends = s.resends := hres
    simp only [framesLeft, entered_state, entered_resends, hres', hf, StateReg.named.injEq, if_neg hnv]
    by_cases hg' : g = .ackVerify
    · rw [if_pos hg', if_pos (hgf hg').1]; omega
    · rw [if_neg hg', if_neg fun hh => hg' (hfg hh), Nat.add_zero]
  | resend hv hack hr hrun =>
    subst hv
    have hr' : s.resends.val < 5 := hr
    refine ⟨?_, by simp⟩
    have hcount : framesLeft (entered .freeTime (resetCursor (setResends (s.resends + 1) (spent s)))) =
        framesLeft s := by
      simp [framesLeft, hf, resends_add hr']
    exact (hcount ▸ ha.followers :)
  | ok hv hack hb => exact absurd rfl hbusy
  | failed hv hack hr => exact absurd rfl hbusy

/-- Settles O57: the frames left are 6 less the resends at the start and 0 at the end. -/
theorem unacknowledgedTransferFails : Obligations.UnacknowledgedTransferFails := by
  intro s rest h hf hfo
  have hs : Answered false framesLeft rest s := by
    refine ⟨?_, fun hv => by rw [hf] at hv; cases hv⟩
    have hcount : framesLeft s = 6 - s.resends.val := by simp [framesLeft, hf]
    rw [hcount]
    exact hfo
  obtain ⟨n, s0, t, -, hrun, -, hpend, hp, hv, ha, hend⟩ :=
    runs_to_end (unacknowledged_kept rest) s h (by simp [hf]) hs
  rcases hend with ⟨hack, -, -⟩ | ⟨-, hr, e⟩
  · exact absurd ((ha.ack hv).symm.trans hack) (by decide)
  · refine ⟨n, t, hrun, e.idle, e.len, e.resends, by rw [e.pending, hpend, hp, flagWord_sendFailed], ?_⟩
    have hnone : framesLeft s0 = 0 := by simp [framesLeft, hv, hr]
    rw [e.followers, ha.followers, hnone]
    rfl

end Sys2Proof.Machine
end

section
/-! Fair runs (44_timer_adapter.md R262): a message held is sent or given up. -/
namespace Sys2Proof.Machine

/-- Nothing of the transfer has changed from `s` to `t`: at most the flag word is drained and a value returned. -/
def SameTransfer (s t : State) : Prop := t = { s with pending := t.pending, ret := t.ret }

/-- While a message is held, no operation but RESET, the START that begins its transfer and the ticks of the transfer
changes anything of it. -/
theorem sameTransfer_of_event {s t : State} {i : Instr} (h : Sound s) (hl : s.len ≠ 0) (he : isEvent i = true)
    (hr : i ≠ .reset) (hstart : i = .start → s.state ≠ .named .idle) (htick : i = .tick → s.state = .named .idle)
    (e : exec i s = .next t) : SameTransfer s t := by
  have hs := h
  obtain ⟨⟨-, hf⟩, -, hrest, -, htrig, -⟩ := h
  cases i
  case reset => exact absurd rfl hr
  case init b => exact absurd (init_next e).1 hl
  case send bytes =>
    rw [exec_send_of_live hf] at e
    split at e
    · cases e
    · rw [if_pos (inProgress_iff.mpr hl)] at e
      cases e
      rfl
  case poll =>
    rw [poll_next e]
    rfl
  case start =>
    have ht : s.trig = false := by
      by_contra ht
      exact hstart rfl (htrig (by simpa using ht)).1
    rw [exec_start_not_enabled hf ht] at e
    cases e
  case tick =>
    obtain ⟨-, -, ha, -⟩ := hrest (htick rfl)
    rw [tick_idles hs ha] at e
    cases e
    rfl
  all_goals cases he

theorem len_ne_zero_of_busy {s : State} (h : Sound s) (hbusy : s.state ≠ .named .idle) : s.len ≠ 0 := fun hl =>
  hbusy (idle_of_no_message h hl)

/-- An upper bound on the ticks until the transfer is over. -/
def ticksLeft (s : State) : Nat := timeoutsLeft s * 2 ^ s.params.timerW + s.tmrCnt

/-- A TICK brings a transfer in progress nearer to its end, or ends it. -/
theorem tick_nears_end {s t : State} (h : Sound s) (hne : s.state ≠ .named .idle) (e : exec .tick s = .next t) :
    (t.state ≠ .named .idle ∧ ticksLeft t < ticksLeft s) ∨ Ends s t := by
  cases hf : s.state with
  | reserved => exact absurd hf h.1.1
  | named f =>
    have hi : f ≠ .idle := by rintro rfl; exact hne hf
    by_cases hc : s.tmrCnt ≤ 1
    · obtain ⟨t', e', hst, hx⟩ := tick_expiry h hf hi hc
      cases e'.symm.trans e
      rcases hx.goes_on_or_ends with ⟨hbusy, -⟩ | ⟨-, hend⟩
      · have hp : t.params = s.params := (exec_kept e (by decide) (by simp) (by simp) (by decide) (by decide)).params
        have hcnt : t.tmrCnt < 2 ^ t.params.timerW := by
          obtain ⟨-, -, -, -, -, ⟨-, -, -, hw, -⟩, -⟩ := hst
          exact hw
        have hlt : timeoutsLeft t < timeoutsLeft s := (hx.shortens hf hi).1
        have hmul : (timeoutsLeft t + 1) * 2 ^ s.params.timerW ≤ timeoutsLeft s * 2 ^ s.params.timerW :=
          Nat.mul_le_mul_right _ hlt
        rw [Nat.succ_mul] at hmul
        rw [hp] at hcnt
        refine .inl ⟨hbusy, ?_⟩
        rw [ticksLeft, ticksLeft, hp]
        omega
      · exact .inr hend
    · rw [tick_waits h (armed_of_sound h hf hi) hc] at e
      cases e
      refine .inl ⟨hne, ?_⟩
      show timeoutsLeft s * 2 ^ s.params.timerW + (s.tmrCnt - 1) < timeoutsLeft s * 2 ^ s.params.timerW + s.tmrCnt
      omega

/-- The first of the points from `n` on at which something holds. -/
theorem exists_first {Q : Nat → Prop} {n : Nat} (h : ∃ m, n ≤ m ∧ Q m) :
    ∃ m, n ≤ m ∧ Q m ∧ ∀ k, n ≤ k → k < m → ¬ Q k := by
  classical
  obtain ⟨hn, hm⟩ := Nat.find_spec h
  exact ⟨Nat.find h, hn, hm, fun k hk hlt hq => Nat.find_min h hlt ⟨hk, hq⟩⟩

section
variable {ops : Nat → Instr} {run : Nat → State}

theorem FairRun.sound (hrun : FairRun ops run) (h0 : Sound (run 0)) (n : Nat) : Sound (run n) := by
  induction n with
  | zero => exact h0
  | succ n ih => exact event_sound ih (hrun.events n) (hrun.steps n)

/-- Until the START that begins the transfer, and between its ticks, a run without RESET changes nothing of the
transfer. -/
theorem FairRun.sameTransfer (hrun : FairRun ops run) (h0 : Sound (run 0)) {n m : Nat} (hnm : n ≤ m)
    (hl : (run n).len ≠ 0) (hr : ∀ k, n ≤ k → ops k ≠ .reset)
    (hstart : ∀ k, n ≤ k → k < m → ops k = .start → (run n).state ≠ .named .idle)
    (htick : ∀ k, n ≤ k → k < m → ops k = .tick → (run n).state = .named .idle) : SameTransfer (run n) (run m) := by
  induction m, hnm using Nat.le_induction with
  | base => rfl
  | succ m hm ih =>
    have hsame : SameTransfer (run n) (run m) :=
      ih (fun k hk hlt => hstart k hk (by omega)) (fun k hk hlt => htick k hk (by omega))
    have hstate : (run m).state = (run n).state := by rw [hsame]
    have hlen : (run m).len = (run n).len := by rw [hsame]
    have hstep := sameTransfer_of_event (hrun.sound h0 m) (hlen ▸ hl) (hrun.events m) (hr m hm)
      (fun he => hstate ▸ hstart m hm (by omega) he) (fun he => hstate ▸ htick m hm (by omega) he) (hrun.steps m)
    rw [SameTransfer, hstep, hsame]

/-- A message waiting in Idle has its transfer begun. -/
theorem FairRun.begins (hrun : FairRun ops run) (h0 : Sound (run 0)) {n : Nat} (hi : (run n).state = .named .idle)
    (hl : (run n).len ≠ 0) (hr : ∀ k, n ≤ k → ops k ≠ .reset) : ∃ m, n ≤ m ∧ (run m).state ≠ .named .idle := by
  have ht : (run n).trig = true := by
    obtain ⟨-, -, -, hwait, -⟩ := hrun.sound h0 n
    exact hwait hi (Nat.pos_of_ne_zero fun hz => hl (Fin.ext hz))
  obtain ⟨m, hm, hq, hmin⟩ := exists_first (hrun.starts n ht)
  have hsame : SameTransfer (run n) (run m) :=
    hrun.sameTransfer h0 hm hl hr (fun k hk hlt he => absurd (.inl he) (hmin k hk hlt)) fun _ _ _ _ => hi
  have htm : (run m).trig = true := by rw [hsame]; exact ht
  have hop : ops m = .start := hq.resolve_right (by simp [htm])
  obtain ⟨t, e, -, hfree, -⟩ := start_waiting (hrun.sound h0 m) htm
  have hstep := hrun.steps m
  rw [hop, e] at hstep
  cases hstep
  exact ⟨m + 1, by omega, by simp [hfree]⟩

/-- A transfer in progress comes to its end, at a TICK. -/
theorem FairRun.ends (hrun : FairRun ops run) (h0 : Sound (run 0)) (n : Nat) (hbusy : (run n).state ≠ .named .idle)
    (hr : ∀ k, n ≤ k → ops k ≠ .reset) :
    ∃ m, n ≤ m ∧ ops m = .tick ∧ (run m).state ≠ .named .idle ∧ Ends (run m) (run (m + 1)) := by
  induction hk : ticksLeft (run n) using Nat.strong_induction_on generalizing n with
  | _ k ih =>
    obtain ⟨m, hm, hop, hmin⟩ := exists_first (hrun.ticks n)
    have hsame : SameTransfer (run n) (run m) :=
      hrun.sameTransfer h0 hm (len_ne_zero_of_busy (hrun.sound h0 n) hbusy) hr (fun _ _ _ _ => hbusy)
        fun k hk hlt he => absurd he (hmin k hk hlt)
    have hstate : (run m).state = (run n).state := by rw [hsame]
    have hleft : ticksLeft (run m) = ticksLeft (run n) := by rw [hsame]; rfl
    have hbusy' : (run m).state ≠ .named .idle := hstate ▸ hbusy
    have hstep := hrun.steps m
    rw [hop] at hstep
    rcases tick_nears_end (hrun.sound h0 m) hbusy' hstep with ⟨hnext, hlt⟩ | hend
    · obtain ⟨m', hm', hres⟩ := ih _ (by omega) (m + 1) hnext (fun k hk => hr k (by omega)) rfl
      exact ⟨m', by omega, hres⟩
    · exact ⟨m, hm, hop, hbusy', hend⟩

end

/-- Settles O58: the transfer is begun, if it has to be, and then ends. -/
theorem fairRunsEndEveryTransfer : Obligations.FairRunsEndEveryTransfer := by
  intro ops run n hrun h0 hl hr
  obtain ⟨b, hb, hbusy⟩ : ∃ b, n ≤ b ∧ (run b).state ≠ .named .idle := by
    by_cases hi : (run n).state = .named .idle
    · exact hrun.begins h0 hi hl hr
    · exact ⟨n, Nat.le_refl n, hi⟩
  obtain ⟨m, hm, hop, hbusym, hend⟩ := hrun.ends h0 b hbusy fun k hk => hr k (by omega)
  have hlm := len_ne_zero_of_busy (hrun.sound h0 m) hbusym
  rcases hend with ⟨-, -, e⟩ | ⟨-, -, e⟩
  · exact ⟨m, by omega, hop, hlm, e.idle, e.len, .inl e.pending⟩
  · exact ⟨m, by omega, hop, hlm, e.idle, e.len, .inr e.pending⟩

end Sys2Proof.Machine
end

section
/-! The host's operations and the fault, from any live or faulted state (44_timer_adapter.md R256, R257,
70_reset_and_hazards.md R350, 10_state.md R38, 43_fsm_transition.md R227). -/
namespace Sys2Proof.Machine

/-- Settles O8: the basis drawn has the width of the register. -/
theorem resetOperationRestoresReset : Obligations.ResetOperationRestoresReset := fun s =>
  ⟨(Config.resetBasis s.params.basisW s.draws).toNat, BitVec.isLt _, exec_reset s⟩

/-- Settles O9: the three answers of INIT, one a clause. -/
theorem initSetsTheAdmittedBasis : Obligations.InitSetsTheAdmittedBasis := by
  intro s b h
  refine ⟨fun hl ha => ?_, fun hl => ?_, fun hl ha => ?_⟩
  · rw [exec_init_of_live h, if_neg (by simp [inProgress_iff, hl]), if_pos ha]
  · rw [exec_init_of_live h, if_pos (inProgress_iff.mpr hl)]
  · rw [exec_init_of_live h, if_neg (by simp [inProgress_iff, hl]), if_neg (by simp [ha])]

/-- Settles O12: the four answers of SEND, one a clause; the copy is `copyBytes` from position 0. -/
theorem sendAdmitsCopiesAndTriggers : Obligations.SendAdmitsCopiesAndTriggers := by
  intro s bytes h
  rw [exec_send_of_live h]
  refine ⟨fun hi => ?_, fun hi hl => ?_, fun hi hl hb => ?_, fun hi hl h1 h16 => ?_⟩
  · rw [if_pos (by simp [hi])]
  · rw [if_neg (by simp [hi]), if_pos (inProgress_iff.mpr hl)]
  · rw [if_neg (by simp [hi]), if_neg (by simp [inProgress_iff, hl]), if_pos (by omega)]
  · rw [if_neg (by simp [hi]), if_neg (by simp [inProgress_iff, hl]), if_neg (by omega)]
    refine ⟨copyBytes bytes 0 s.msg, rfl, fun j hj => ?_⟩
    rw [copyBytes_get]
    simp

/-- Settles O18: the timer is spent, and the trigger cleared, before the fault is raised. -/
theorem reservedStateFaults : Obligations.ReservedStateFaults := by
  intro s h hs
  refine ⟨fun ha hc => ?_, fun ht => ?_⟩
  · rw [exec_tick_of_live h, if_pos ha, if_pos hc, expire_reserved (s := { s with ret := .nothing }) hs]
    rfl
  · rw [exec_start h ht, hs]

/-- Settles O19: every operation but RESET is one that runs only in a live block. -/
theorem faultedBlockStaysFaulted : Obligations.FaultedBlockStaysFaulted := by
  intro i s h hi
  cases i
  case reset => exact absurd rfl hi
  all_goals
    rw [exec]
    exact whenLive_faulted h _

end Sys2Proof.Machine
end

section
/-! The timing table and the bases it admits (40_timing_table.md). -/
namespace Sys2Proof.Machine
open Sys2Proof.Spec

/-- Settles O20: each entry only returns the ticks of its own ROM address. -/
theorem timingEntriesReturnTheirTicks : Obligations.TimingEntriesReturnTheirTicks := fun _ h =>
  ⟨whenLive_returning h fun s => .ticks (tStartLow s), whenLive_returning h fun s => .ticks (tStartHigh s),
    whenLive_returning h fun s => .ticks (tZeroLow s), whenLive_returning h fun s => .ticks (tZeroHigh s),
    whenLive_returning h fun s => .ticks (tOneLow s), whenLive_returning h fun s => .ticks (tOneHigh s),
    whenLive_returning h fun s => .ticks (tFreeNi s), whenLive_returning h fun s => .ticks (tFreeRs s),
    whenLive_returning h fun s => .ticks (tBitPeriod s), whenLive_returning h fun s => .ticks (tSample s)⟩

/-- ROM.READ of an address the ROM has returns its entry. -/
theorem exec_romRead_of_some {s : State} {a : BitVec 4} {us : Micros} (h : s.faulted = false)
    (hr : s.rom[a.toNat]? = some us) : exec (.romRead a) s = .next { s with ret := .micros us } := by
  have hr' : romRead a { s with ret := .nothing } = some us := hr
  simp only [exec, execRomRead, whenLive_live h, hr']
  rfl

/-- ROM.READ of an address the ROM has not is refused. -/
theorem exec_romRead_of_none {s : State} {a : BitVec 4} (h : s.faulted = false) (hr : s.rom[a.toNat]? = none) :
    exec (.romRead a) s = .refused .romAddress := by
  have hr' : romRead a { s with ret := .nothing } = none := hr
  simp only [exec, execRomRead, whenLive_live h, hr']

/-- Settles O21: the ROM has ten entries. -/
theorem romReadAndTicks : Obligations.RomReadAndTicks := by
  intro s h
  refine ⟨fun a ha => ?_, fun a ha => ?_, fun us => whenLive_returning h fun s => .ticks (ticks us s)⟩
  · exact exec_romRead_of_some h (Vector.getElem?_eq_getElem ha)
  · exact exec_romRead_of_none h (Vector.getElem?_eq_none ha)

/-- `ACK_VERIFY_TICKS` in ROM entries, where the sample is not after the end of the period (R146). -/
theorem ackVerifyTicks_eq_sub {s : State} (h : duration 9 s ≤ duration 8 s) :
    ackVerifyTicks s = duration 8 s - duration 9 s :=
  if_pos h

theorem exec_ackHighTicks_of_live {s : State} (h : s.faulted = false) :
    exec .ackHighTicks s = .next { s with ret := .ticks (ackHighTicks s) } :=
  whenLive_returning h fun s => .ticks (ackHighTicks s)

theorem exec_ackVerifyTicks_of_live {s : State} (h : s.faulted = false) :
    exec .ackVerifyTicks s = .next { s with ret := .ticks (ackVerifyTicks s) } :=
  whenLive_returning h fun s => .ticks (ackVerifyTicks s)

/-- Settles O23: the two differences telescope to the rest of the bit period. -/
theorem ackDurationsSubtractTicks : Obligations.AckDurationsSubtractTicks := by
  intro s h
  refine ⟨fun hle => ?_, fun hle => ?_, ackHighTicks s, ackVerifyTicks s, exec_ackHighTicks_of_live h,
    exec_ackVerifyTicks_of_live h, fun h49 h98 => ?_⟩
  · rw [exec_ackHighTicks_of_live h, ackHighTicks_eq_sub hle]
  · rw [exec_ackVerifyTicks_of_live h, ackVerifyTicks_eq_sub hle]
  · rw [ackHighTicks_eq_sub h49, ackVerifyTicks_eq_sub h98]
    omega

/-- Settles O10: the clauses are the conjuncts of `admitted`, but that a difference is at least 1 is said there of each
count the timer is armed with. -/
theorem admissionClauses : Obligations.AdmissionClauses := by
  intro p rom b t
  have hfits (n : Nat) : fits p.timerW n = true ↔ 1 ≤ n ∧ n < 2 ^ p.timerW := by simp [fits]
  simp only [admitted, Bool.and_eq_true, decide_eq_true_eq, hfits]
  constructor
  · rintro ⟨⟨⟨⟨⟨⟨⟨⟨⟨⟨⟨⟨⟨⟨⟨hb, h0⟩, h1⟩, h2⟩, h3⟩, h4⟩, h5⟩, h6⟩, h7⟩, h49⟩, hHigh⟩, h98⟩, hVerify⟩, h42⟩, h35⟩, h76⟩
    refine ⟨hb, ⟨fun a => ?_, h49, hHigh.2, h98, hVerify.2⟩, ⟨h42, h35⟩, h76⟩
    fin_cases a <;> assumption
  · rintro ⟨hb, ⟨h, h49, hHigh, h98, hVerify⟩, ⟨h42, h35⟩, h76⟩
    exact ⟨⟨⟨⟨⟨⟨⟨⟨⟨⟨⟨⟨⟨⟨⟨hb, h 0⟩, h 1⟩, h 2⟩, h 3⟩, h 4⟩, h 5⟩, h 6⟩, h 7⟩, h49⟩, Nat.sub_pos_of_lt h49, hHigh⟩, h98⟩,
      Nat.sub_pos_of_lt h98, hVerify⟩, h42⟩, h35⟩, h76⟩

/-- The ticks of the default ROM's entry `a` with the basis `b` (40_timing_table.md R132, R147). -/
def defaultTicks (b : Nat) (a : Fin 10) : Nat := Config.romDefault[a].toNat * b / 10000

/-- The default ROM in numbers (30_encoding.md R92). -/
theorem defaultTicks_values (b : Nat) :
    defaultTicks b 0 = 3700 * b / 10000 ∧ defaultTicks b 1 = 800 * b / 10000 ∧ defaultTicks b 2 = 1500 * b / 10000 ∧
      defaultTicks b 3 = 900 * b / 10000 ∧ defaultTicks b 4 = 600 * b / 10000 ∧ defaultTicks b 5 = 1800 * b / 10000 ∧
      defaultTicks b 6 = 12000 * b / 10000 ∧ defaultTicks b 7 = 7200 * b / 10000 ∧
      defaultTicks b 8 = 2400 * b / 10000 ∧ defaultTicks b 9 = 1050 * b / 10000 :=
  ⟨rfl, rfl, rfl, rfl, rfl, rfl, rfl, rfl, rfl, rfl⟩

/-- Entry 4 is the shortest of the default ROM and entry 6 the longest. -/
theorem defaultTicks_bounds (b : Nat) (a : Fin 10) :
    defaultTicks b 4 ≤ defaultTicks b a ∧ defaultTicks b a ≤ defaultTicks b 6 := by
  have hrom : ∀ a : Fin 10, Config.romDefault[(4 : Fin 10)].toNat ≤ Config.romDefault[a].toNat ∧
      Config.romDefault[a].toNat ≤ Config.romDefault[(6 : Fin 10)].toNat := by decide
  exact ⟨Nat.div_le_div_right (Nat.mul_le_mul_right b (hrom a).1),
    Nat.div_le_div_right (Nat.mul_le_mul_right b (hrom a).2)⟩

/-- Settles O11: a difference of `d` microseconds tells two entries apart for certain where `d * b` is at least 10000;
the bases below that are tried one by one. -/
theorem admittedBasesOfTheDefaultRom : Obligations.AdmittedBasesOfTheDefaultRom := by
  intro b
  obtain ⟨e0, e1, e2, e3, e4, e5, e6, e7, e8, e9⟩ := defaultTicks_values b
  change (admitted .defaults Config.romDefault b = true ↔ _) ∧
    (7 ≤ b → defaultTicks b 4 < defaultTicks b 2 ∧ defaultTicks b 3 < defaultTicks b 5) ∧
    (b = 6 → defaultTicks b 4 = 0 ∧ defaultTicks b 2 = 0) ∧ (1 ≤ b → defaultTicks b 7 < defaultTicks b 6)
  have hb : 7 ≤ b → defaultTicks b 4 < defaultTicks b 2 ∧ defaultTicks b 3 < defaultTicks b 5 := by
    intro h7
    by_cases h12 : 12 ≤ b
    · omega
    · interval_cases b <;> decide
  have hc : 1 ≤ b → defaultTicks b 7 < defaultTicks b 6 := by
    intro h1
    by_cases h3 : 3 ≤ b
    · omega
    · interval_cases b <;> decide
  have ha : 20 ≤ b → defaultTicks b 4 < defaultTicks b 9 := by
    intro h20
    by_cases h23 : 23 ≤ b
    · omega
    · interval_cases b <;> decide
  refine ⟨(admissionClauses .defaults Config.romDefault b).trans ?_, hb, ?_, hc⟩
  · constructor
    · rintro ⟨-, ⟨h, h49, -⟩, -⟩
      have h4 : 1 ≤ defaultTicks b 4 := (h 4).1
      have h6 : defaultTicks b 6 < 2 ^ 32 := (h 6).2
      have h49 : defaultTicks b 4 < defaultTicks b 9 := h49
      omega
    · rintro ⟨h20, hmax⟩
      have h1 : 1 ≤ defaultTicks b 4 := by omega
      have h2 : defaultTicks b 6 < 2 ^ 32 := by omega
      have hfit (a : Fin 10) : 1 ≤ defaultTicks b a ∧ defaultTicks b a < 2 ^ 32 := by
        have := defaultTicks_bounds b a
        omega
      have hsub (c d : Fin 10) : defaultTicks b c - defaultTicks b d < 2 ^ 32 :=
        Nat.lt_of_le_of_lt (Nat.sub_le _ _) (hfit c).2
      have h98 : defaultTicks b 9 < defaultTicks b 8 := by omega
      have hwidth : b < 2 ^ 32 := by omega
      exact ⟨hwidth, ⟨fun a => hfit _, ha h20, hsub 9 4, h98, hsub 8 9⟩, hb (by omega), hc (by omega)⟩
  · rintro rfl
    decide

end Sys2Proof.Machine
end

section
/-! The cursor, the timer, the line and the flags, each operation alone (41_cursor.md, 44_timer_adapter.md R251 to R261,
45_result_notifier.md R281 to R284). -/
namespace Sys2Proof.Machine
open Sys2Proof.Spec

/-! ## The cursor -/

/-- Settles O24: CUR.RESET runs in a live block and is `resetCursor`. -/
theorem cursorReset : Obligations.CursorReset := fun _ h => whenLive_live h fun s => .next (resetCursor s)

theorem exec_curBit_of_live {s : State} (h : s.faulted = false) :
    exec .curBit s = .next { s with ret := .bit (curBit s) } :=
  whenLive_returning h fun s => .bit (curBit s)

/-- Settles O25: the two branches of `curBit`. -/
theorem cursorBitReadsMostSignificantFirst : Obligations.CursorBitReadsMostSignificantFirst := by
  intro s h
  refine ⟨fun hle => ?_, fun hlt => ?_⟩
  · rw [exec_curBit_of_live h, curBit, dif_neg (by omega)]
  · rw [exec_curBit_of_live h, curBit, dif_pos hlt]

theorem exec_curAdv_of_live {s : State} (h : s.faulted = false) :
    exec .curAdv s = advanceCursor { s with ret := .nothing } :=
  whenLive_live h advanceCursor

/-- Settles O26: the three ways of `CUR.ADV`. -/
theorem cursorAdvanceRollsOver : Obligations.CursorAdvanceRollsOver := by
  intro s h
  rw [exec_curAdv_of_live h]
  exact ⟨fun hk => advanceCursor_bit (s := { s with ret := .nothing }) hk,
    fun hk hb => advanceCursor_byte (s := { s with ret := .nothing }) hk hb,
    fun hk hb => advanceCursor_end (s := { s with ret := .nothing }) hk hb⟩

/-- Settles O27: CUR.EOM only returns a value, and `curEom` is the statement's. -/
theorem cursorEndOfMessage : Obligations.CursorEndOfMessage := fun _ h => whenLive_returning h fun s => .bit (curEom s)

/-! ## The timer -/

theorem exec_tmrArm_of_live {s : State} (h : s.faulted = false) (n : Nat) :
    exec (.tmrArm n) s = armTimer n { s with ret := .nothing } :=
  whenLive_live h (armTimer n)

/-- TMR.ARM with a count other than 0 loads the count, or one of the register's width where it does not fit. -/
theorem exec_tmrArm_pos {s : State} (h : s.faulted = false) {n : Nat} (hn : 1 ≤ n) :
    exec (.tmrArm n) s = .next { s with tmrCnt := countFor n s, tmrArmed := true, ret := .nothing } :=
  (exec_tmrArm_of_live h n).trans (armTimer_pos hn _)

/-- Settles O40: a count that fits is loaded as it is, a wider one as what `countFor` draws. -/
theorem timerArmsAndStops : Obligations.TimerArmsAndStops := by
  intro s h
  refine ⟨fun n ⟨h1, hlt⟩ => ?_, ?_, fun n hn => ?_, whenLive_live h fun s => .next (stopTimer s)⟩
  · rw [exec_tmrArm_pos h h1, countFor_eq hlt]
  · rw [exec_tmrArm_of_live h, armTimer_zero]
  · exact ⟨countFor n s, countFor_lt n s, exec_tmrArm_pos h (Nat.le_trans (Nat.two_pow_pos _) hn)⟩

/-! ## The line -/

/-- A line read takes the next level laid down. -/
theorem drawFollower_cons {s : State} {f : Bit} {fs : List Bit} (hf : s.followers = f :: fs) :
    drawFollower s = (f, { s with followers := fs }) := by
  simp only [drawFollower, hf]

/-- With no level laid down a line read draws a free one. -/
theorem drawFollower_nil {s : State} (hf : s.followers = []) :
    drawFollower s = (Config.followerLevel s.draws, { s with draws := s.draws + 1 }) := by
  simp only [drawFollower, hf]

theorem exec_lineGet_of_draw {s : State} (h : s.faulted = false) {f : Bit} {t : State}
    (hd : drawFollower { s with ret := .nothing } = (f, t)) :
    exec .lineGet s = .next { t with ret := .bit (s.lineOut && f) } := by
  simp only [exec, execLineGet, whenLive_live h, lineGet_fst, lineGet_snd, hd]
  rfl

/-- Settles O41: LINE.GET draws the level laid down, or with none the free one. -/
theorem lineIsAWiredAnd : Obligations.LineIsAWiredAnd := by
  intro s h
  refine ⟨fun v => whenLive_live h fun s => .next (setLine v s), fun f fs hf => ?_, fun hf =>
    ⟨Config.followerLevel s.draws, ?_⟩⟩
  · exact exec_lineGet_of_draw h (drawFollower_cons (s := { s with ret := .nothing }) hf)
  · exact exec_lineGet_of_draw h (drawFollower_nil (s := { s with ret := .nothing }) hf)

/-! ## The sample -/

/-- R196 in the words of the statements: the sample is of the wired-AND, inverted for a broadcast. -/
theorem sampleAck_of_draw {s t : State} {f : Bit} (hd : drawFollower s = (f, t)) :
    sampleAck s = { t with ack := ackFor f s } := by
  rw [sampleAck, lineGet_fst, lineGet_snd, hd]
  rfl

theorem sampleAck_cons {s : State} {f : Bit} {fs : List Bit} (hf : s.followers = f :: fs) :
    sampleAck s = { s with ack := ackFor f s, followers := fs } :=
  sampleAck_of_draw (drawFollower_cons hf)

theorem sampleAck_nil {s : State} (hf : s.followers = []) :
    sampleAck s = { s with ack := ackFor (Config.followerLevel s.draws) s, draws := s.draws + 1 } :=
  sampleAck_of_draw (drawFollower_nil hf)

theorem exec_ackSample_of_live {s : State} (h : s.faulted = false) :
    exec .ackSample s = .next (sampleAck { s with ret := .nothing }) :=
  whenLive_live h fun s => .next (sampleAck s)

/-- Settles O31: the level sampled is the one laid down, or with none the free one. -/
theorem sampleInvertsForBroadcast : Obligations.SampleInvertsForBroadcast := by
  intro s h
  rw [exec_ackSample_of_live h]
  refine ⟨fun f fs hf => ?_, fun hf => ⟨Config.followerLevel s.draws, ?_⟩⟩
  · rw [sampleAck_cons (s := { s with ret := .nothing }) hf]
    rfl
  · rw [sampleAck_nil (s := { s with ret := .nothing }) hf]
    rfl

/-! ## The flags -/

theorem exec_evtPost_of_live {s : State} (h : s.faulted = false) (f : Flag) :
    exec (.evtPost f) s = .next { s with pending := s.pending ||| flagWord s.params f, ret := .nothing } :=
  whenLive_live h fun s => .next (orPending (flagWord s.params f) s)

/-- `evt_avail` is high where a bit has been ORed into the word (R283). -/
theorem evtAvail_of_or {s : State} {w k : Nat} (h : s.pending = w ||| 2 ^ k) : evtAvail s = true := by
  refine decide_eq_true fun h0 => ?_
  have hbit : (w ||| 2 ^ k).testBit k = true := by
    rw [Nat.testBit_or, Nat.testBit_two_pow_self, Bool.or_true]
  rw [← h, h0, Nat.zero_testBit] at hbit
  cases hbit

/-- Settles O42: each flag is one bit of the word. -/
theorem postCombinesTheFlag : Obligations.PostCombinesTheFlag := fun _ h =>
  ⟨exec_evtPost_of_live h .sendOk, exec_evtPost_of_live h .sendFailed, evtAvail_of_or rfl, evtAvail_of_or rfl⟩

/-- Two bits at distinct positions are not the word of one of them. -/
theorem two_pow_or_ne {i j : Nat} (h : i ≠ j) : 2 ^ i ||| 2 ^ j ≠ 2 ^ i := by
  intro he
  have hbit : (2 ^ i).testBit j = true := by
    rw [← he, Nat.testBit_or, Nat.testBit_two_pow_self, Bool.or_true]
  rw [Nat.testBit_two_pow] at hbit
  exact h (of_decide_eq_true hbit)

/-- Settles O43: the positions are distinct, so the two flags are distinct words, neither 0 nor both. -/
theorem pollViewNamesOneOutcome : Obligations.PollViewNamesOneOutcome := by
  refine ⟨fun p hp => ?_, rfl, rfl, rfl⟩
  have hne : p.okBit ≠ p.failedBit := by
    simp only [Params.admissible, Bool.and_eq_true, decide_eq_true_eq] at hp
    exact hp.1.1
  have hok : (2 : Nat) ^ p.okBit ≠ 0 := (Nat.two_pow_pos _).ne'
  have hfailed : (2 : Nat) ^ p.failedBit ≠ 0 := (Nat.two_pow_pos _).ne'
  have hdist : (2 : Nat) ^ p.failedBit ≠ 2 ^ p.okBit := fun he => hne (Nat.pow_right_injective (Nat.le_refl 2) he).symm
  have hboth : 2 ^ p.okBit ||| 2 ^ p.failedBit ≠ 2 ^ p.failedBit := Nat.or_comm _ _ ▸ two_pow_or_ne hne.symm
  have hboth0 : 2 ^ p.okBit ||| 2 ^ p.failedBit ≠ 0 := by simp [Nat.or_eq_zero_iff]
  refine ⟨?_, ?_, ?_, ?_⟩
  · rw [pollView, if_pos rfl]
  · rw [pollView, if_neg hok, flagWord_sendOk, if_pos rfl]
  · rw [pollView, if_neg hfailed, flagWord_sendOk, if_neg hdist, flagWord_sendFailed, if_pos rfl]
  · rw [pollView, if_neg hboth0, flagWord_sendOk, if_neg (two_pow_or_ne hne), flagWord_sendFailed, if_neg hboth]

end Sys2Proof.Machine
end

section
/-! Entries, alone or in the transition or the START that enters (42_fsm_entry.md, 43_fsm_transition.md,
44_timer_adapter.md R255). -/
namespace Sys2Proof.Machine
open Sys2Proof.Spec

/-! ## What an entry does -/

/-- What the entry of `f`, not Idle, does from the registers of `s`: it prepares, then arms the timer for its
duration. -/
def entryOutcome (f : Fsm) (s : State) : Out := armTimer (entryDuration f s) (prepare f { s with ret := .nothing })

/-- Entering a state is its entry with `STATE` written first (R180). -/
theorem enter_eq_entryOutcome {f : Fsm} (hf : f ≠ .idle) (s : State) :
    enter f { s with ret := .nothing } = entryOutcome f (goto f s) := by
  rw [entryOutcome, ← entryTicks_eq_entryDuration]
  cases f
  case idle => exact absurd rfl hf
  all_goals rfl

/-- The ENTER operation of a state is its entry. -/
theorem exec_enterInstr {s : State} (h : s.faulted = false) {f : Fsm} (hf : f ≠ .idle) :
    exec (enterInstr f) s = entryOutcome f s := by
  rw [entryOutcome, ← entryTicks_eq_entryDuration]
  cases f
  case idle => exact absurd rfl hf
  all_goals exact whenLive_live h _

theorem entryOutcome_zero {f : Fsm} {s : State} (h : entryDuration f s = 0) : entryOutcome f s = .refused .armZero := by
  rw [entryOutcome, h, armTimer_zero]

/-- Preparing an entry keeps the parameters. -/
theorem prepare_params (f : Fsm) (s : State) : (prepare f s).params = s.params := by
  cases f
  case ackVerify => rw [prepare, sampleAck_eq]
  all_goals rfl

/-- An entry whose duration is not 0 arms the timer, with the duration where it fits. -/
theorem entryOutcome_pos {f : Fsm} {s : State} (h : 1 ≤ entryDuration f s) :
    entryOutcome f s = .next (loadTimer (countFor (entryDuration f s) s) (prepare f { s with ret := .nothing })) := by
  have hp : (prepare f { s with ret := .nothing }).params = s.params := prepare_params f _
  rw [entryOutcome, armTimer_pos h, countFor_congr hp]

/-- An entry whose duration the timer takes arms it with just that. -/
theorem entryOutcome_takes {f : Fsm} {s : State} {n : Nat} (hn : entryDuration f s = n) (h : TimerTakes s n) :
    entryOutcome f s = .next (loadTimer n (prepare f { s with ret := .nothing })) := by
  subst hn
  rw [entryOutcome_pos h.1, countFor_eq h.2]

/-- The level drawn does not depend on the value last returned. -/
theorem drawFollower_fst_ret (s : State) (r : Ret) : (drawFollower { s with ret := r }).1 = (drawFollower s).1 := by
  cases hf : s.followers <;> simp only [drawFollower, hf]

/-- What an entry prepares is, beside the timer, what the statements say it writes, at the level drawn. -/
theorem prepare_eq_onEntry {f : Fsm} (hf : f ≠ .idle) (s : State) (c : Nat) :
    loadTimer c (prepare f { s with ret := .nothing }) =
      { onEntry f (drawFollower s).1 s with tmrArmed := true, tmrCnt := c, ret := .nothing } := by
  cases f
  case idle => exact absurd rfl hf
  case ackVerify =>
    rw [prepare, sampleAck_eq, lineGet_fst, drawFollower_fst_ret]
    rfl
  all_goals rfl

/-- An entry whose duration is not 0 completes as the statements say. -/
theorem entryOutcome_leaves {f : Fsm} {s : State} (hf : f ≠ .idle) (h : 1 ≤ entryDuration f s) :
    ∃ t, entryOutcome f s = .next t ∧ LeftByEntry f s t := by
  refine ⟨_, entryOutcome_pos h, countFor (entryDuration f s) s, (drawFollower s).1, countFor_lt _ _, countFor_eq,
    fun g gs hg => ?_, prepare_eq_onEntry hf s _⟩
  rw [drawFollower_cons hg]

/-! ## The transitions into an entry -/

/-- Where the cursor can move it moves as the statements say. -/
theorem advanceCursor_of_canAdvance {s : State} (h : CanAdvance s) :
    advanceCursor { s with ret := .nothing } = .next { advanced s with ret := .nothing } := by
  by_cases hk : s.bit = 7
  · rw [advanceCursor_byte (s := { s with ret := .nothing }) hk (h hk), advanced, if_pos hk]
  · rw [advanceCursor_bit (s := { s with ret := .nothing }) hk, advanced, if_neg hk]

/-- Moving the cursor writes it and the value returned. -/
theorem advanced_frame (s : State) :
    advanced s = { s with byte := (advanced s).byte, bit := (advanced s).bit, ret := .nothing } := by
  unfold advanced
  split <;> rfl

/-- A transition that moves the cursor and then enters one of two states, in the words of `reached`. -/
theorem advance_then_enter {s s1 : State} {g g1 g2 : Fsm} (P : State → Prop) [DecidablePred P]
    (hg : g1 ≠ .idle ∧ g2 ≠ .idle) (hP : P { advanced s with ret := .nothing } ↔ P (advanced s))
    (h : (if CanAdvance s then some (if P (advanced s) then g1 else g2, advanced s) else none) = some (g, s1)) :
    g ≠ .idle ∧ s1.params = s.params ∧
      (andThen (advanceCursor { s with ret := .nothing }) fun s => if P s then enter g1 s else enter g2 s) =
        enter g { s1 with ret := .nothing } := by
  split at h
  · rename_i hc
    cases h
    rw [advanceCursor_of_canAdvance hc, andThen_of_next]
    have hparams : (advanced s).params = s.params := by rw [advanced_frame]
    by_cases hp : P (advanced s)
    · rw [if_pos (hP.mpr hp), if_pos hp]
      exact ⟨hg.1, hparams, rfl⟩
    · rw [if_neg (mt hP.mp hp), if_neg hp]
      exact ⟨hg.2, hparams, rfl⟩
  · cases h

/-- `reached` says which state the transition of `f` enters, and from which registers. -/
theorem timeout_of_reached {f g : Fsm} {s s1 : State} (h : reached f s = some (g, s1)) :
    g ≠ .idle ∧ s1.params = s.params ∧ timeout f { s with ret := .nothing } = enter g { s1 with ret := .nothing } := by
  cases f
  case idle => cases h
  case headerInitHigh => exact advance_then_enter (·.bit = 4) (by decide) Iff.rfl h
  case headerDestHigh => exact advance_then_enter (·.byte = 1) (by decide) Iff.rfl h
  case dataHigh => exact advance_then_enter (·.bit = 0) (by decide) Iff.rfl h
  case ackVerify =>
    simp only [reached] at h
    show _ ∧ _ ∧ timeoutAckVerify { s with ret := .nothing } = _
    unfold timeoutAckVerify
    split at h
    · rename_i ha
      split at h
      · cases h
      · rename_i he
        cases h
        rw [if_pos ha, if_neg (show ¬ curEom { s with ret := .nothing } = true from he)]
        exact ⟨by decide, rfl, rfl⟩
    · rename_i ha
      split at h
      · rename_i hr
        cases h
        rw [if_neg ha, if_pos (show s.resends.val < Config.maxResends from hr)]
        exact ⟨by decide, rfl, rfl⟩
      · cases h
  all_goals
    cases h
    exact ⟨by decide, rfl, rfl⟩

/-- The TIMEOUT operation of a state is the entry of the state it reaches. -/
theorem exec_timeoutInstr_of_reached {f g : Fsm} {s s1 : State} (h : s.faulted = false)
    (hr : reached f s = some (g, s1)) : exec (timeoutInstr f) s = entryOutcome g (goto g s1) := by
  obtain ⟨hg, -, e⟩ := timeout_of_reached hr
  rw [exec_timeoutInstr_of_live h, e, enter_eq_entryOutcome hg]

/-- No duration depends on `STATE`. -/
theorem entryDuration_goto (f g : Fsm) (s : State) : entryDuration f (goto g s) = entryDuration f s := by
  cases f <;> rfl

/-- START from Idle with a message is the entry of FreeTime. -/
theorem exec_start_of_waiting {s : State} (h : s.faulted = false) (ht : s.trig = true) (hi : s.state = .named .idle)
    (hl : s.len ≠ 0) :
    exec .start s = entryOutcome .freeTime
      (goto .freeTime { s with trig := false, resends := 0, byte := 0, bit := 0 }) := by
  rw [exec_start_enters h ht hi hl]
  exact enter_eq_entryOutcome (by decide) { s with trig := false, resends := 0, byte := 0, bit := 0 }

/-! ## Every duration -/

/-- Settles O45: each of the three ways in is an entry. -/
theorem everyDurationArmsTheTimer : Obligations.EveryDurationArmsTheTimer := by
  intro s h
  refine ⟨fun f hf hd => ?_, fun f g s1 hr hd => ?_, fun ht hi hl hd => ?_⟩
  · rw [exec_enterInstr h hf]
    exact entryOutcome_leaves hf hd
  · rw [exec_timeoutInstr_of_reached h hr]
    exact entryOutcome_leaves (timeout_of_reached hr).1 (by rwa [entryDuration_goto])
  · rw [exec_start_of_waiting h ht hi hl]
    exact entryOutcome_leaves (by decide) hd

/-- Settles O44: each of the three ways in is an entry. -/
theorem zeroDurationIsRefused : Obligations.ZeroDurationIsRefused := by
  intro s h
  refine ⟨fun f hf hd => ?_, fun f g s1 hr hd => ?_, fun ht hi hl hd => ?_⟩
  · rw [exec_enterInstr h hf, entryOutcome_zero hd]
  · rw [exec_timeoutInstr_of_reached h hr, entryOutcome_zero (by rwa [entryDuration_goto])]
  · rw [exec_start_of_waiting h ht hi hl]
    exact entryOutcome_zero hd

/-! ## The entries alone -/

/-- The ENTER operation of a state whose duration the timer takes. -/
theorem exec_enterInstr_takes {s : State} (h : s.faulted = false) {f : Fsm} {n : Nat} (hf : f ≠ .idle)
    (hn : entryDuration f s = n) (ht : TimerTakes s n) :
    exec (enterInstr f) s = .next (loadTimer n (prepare f { s with ret := .nothing })) := by
  rw [exec_enterInstr h hf, entryOutcome_takes hn ht]

/-- Settles O28: the preparation of each entry drives the line, that of StartLow resets the cursor too. -/
theorem fixedEntriesDriveAndArm : Obligations.FixedEntriesDriveAndArm := by
  intro s h
  refine ⟨whenLive_live h enterIdle, fun hr ht => ?_, fun hr ht => ?_, fun ht => ?_, fun ht => ?_, fun ht => ?_,
    fun hle ht => ?_⟩
  · exact exec_enterInstr_takes h (f := .freeTime) (by decide) (if_pos hr) ht
  · exact exec_enterInstr_takes h (f := .freeTime) (by decide) (if_neg hr) ht
  · exact exec_enterInstr_takes h (f := .startLow) (by decide) rfl ht
  · exact exec_enterInstr_takes h (f := .startHigh) (by decide) rfl ht
  · exact exec_enterInstr_takes h (f := .ackLow) (by decide) rfl ht
  · exact exec_enterInstr_takes h (f := .ackHigh) (by decide) (ackHighTicks_eq_sub hle) ht

/-- Settles O29: the three low phases have one duration and one preparation, and so have the three high ones. -/
theorem bitEntriesFollowTheCursor : Obligations.BitEntriesFollowTheCursor := by
  intro s h
  refine ⟨fun ht => ⟨?_, ?_, ?_⟩, fun ht => ⟨?_, ?_, ?_⟩⟩
  · exact exec_enterInstr_takes h (f := .headerInitLow) (by decide) rfl ht
  · exact exec_enterInstr_takes h (f := .headerDestLow) (by decide) rfl ht
  · exact exec_enterInstr_takes h (f := .dataLow) (by decide) rfl ht
  · exact exec_enterInstr_takes h (f := .headerInitHigh) (by decide) rfl ht
  · exact exec_enterInstr_takes h (f := .headerDestHigh) (by decide) rfl ht
  · exact exec_enterInstr_takes h (f := .dataHigh) (by decide) rfl ht

/-- The EOM bit is 1 right after the last byte. -/
theorem eomFor_of_end {s : State} (he : s.bit = 0 ∧ s.byte = s.len) : eomFor s = true := decide_eq_true he

/-- Before that it is 0. -/
theorem eomFor_of_not_end {s : State} (he : ¬ (s.bit = 0 ∧ s.byte = s.len)) : eomFor s = false := decide_eq_false he

/-- Settles O30: the value of the EOM bit selects the duration. -/
theorem eomEntriesMarkTheLastByte : Obligations.EomEntriesMarkTheLastByte := by
  intro s h
  have hlow : entryDuration .eomLow s = lowFor (eomFor s) s := rfl
  have hhigh : entryDuration .eomHigh s = highFor (eomFor s) s := rfl
  refine ⟨fun he => ⟨fun ht => ?_, fun ht => ?_⟩, fun he => ⟨fun ht => ?_, fun ht => ?_⟩⟩
  · exact exec_enterInstr_takes h (f := .eomLow) (by decide) (by rw [hlow, eomFor_of_end he]; rfl) ht
  · exact exec_enterInstr_takes h (f := .eomHigh) (by decide) (by rw [hhigh, eomFor_of_end he]; rfl) ht
  · exact exec_enterInstr_takes h (f := .eomLow) (by decide) (by rw [hlow, eomFor_of_not_end he]; rfl) ht
  · exact exec_enterInstr_takes h (f := .eomHigh) (by decide) (by rw [hhigh, eomFor_of_not_end he]; rfl) ht

/-- What the entry of AckVerify leaves: the sample, the line as it was and the timer armed. -/
theorem loadTimer_ackVerify_cons {s : State} {f : Bit} {fs : List Bit} (hf : s.followers = f :: fs) (n : Nat) :
    loadTimer n (prepare .ackVerify { s with ret := .nothing }) =
      driven s.lineOut n { s with ack := ackFor f s, followers := fs } := by
  rw [prepare, sampleAck_cons (s := { s with ret := .nothing }) hf]
  rfl

theorem loadTimer_ackVerify_nil {s : State} (hf : s.followers = []) (n : Nat) :
    loadTimer n (prepare .ackVerify { s with ret := .nothing }) =
      driven s.lineOut n { s with ack := ackFor (Config.followerLevel s.draws) s, draws := s.draws + 1 } := by
  rw [prepare, sampleAck_nil (s := { s with ret := .nothing }) hf]
  rfl

/-- Settles O32: the duration is the difference of two ROM entries where it is a natural number. -/
theorem ackVerifyEntrySamplesAndArms : Obligations.AckVerifyEntrySamplesAndArms := by
  intro s h hle ht
  have e := exec_enterInstr_takes h (f := .ackVerify) (by decide) (ackVerifyTicks_eq_sub hle) ht
  refine ⟨fun f fs hf => ?_, fun hf => ⟨Config.followerLevel s.draws, ?_⟩⟩
  · exact e.trans (congrArg _ (loadTimer_ackVerify_cons hf _))
  · exact e.trans (congrArg _ (loadTimer_ackVerify_nil hf _))

/-! ## The transitions -/

/-- The TIMEOUT operation of a state that reaches one whose duration the timer takes. -/
theorem exec_timeoutInstr_takes {f g : Fsm} {s s1 : State} {n : Nat} (h : s.faulted = false)
    (hr : reached f s = some (g, s1)) (hn : entryDuration g s1 = n) (ht : TimerTakes s n) :
    exec (timeoutInstr f) s = .next (loadTimer n (prepare g { goto g s1 with ret := .nothing })) := by
  have hp : (goto g s1).params = s.params := (timeout_of_reached hr).2.1
  rw [exec_timeoutInstr_of_reached h hr, entryOutcome_takes ((entryDuration_goto g g s1).trans hn)]
  rwa [TimerTakes, hp]

/-- Settles O34: StartHigh reaches HeaderInitLow with the registers as they are. -/
theorem idleAndStartHighTransitions : Obligations.IdleAndStartHighTransitions := fun _ h =>
  ⟨exec_timeoutInstr_of_live h .idle, fun ht =>
    exec_timeoutInstr_takes h (f := .startHigh) (g := .headerInitLow) rfl rfl ht⟩

/-- Settles O36: the transition is the entry of AckVerify, where the sample is taken. -/
theorem ackHighTransitionSamples : Obligations.AckHighTransitionSamples := by
  intro s h hle ht
  have e := exec_timeoutInstr_takes h (f := .ackHigh) (g := .ackVerify) rfl (ackVerifyTicks_eq_sub hle) ht
  refine ⟨fun f fs hf => ?_, fun hf => ⟨Config.followerLevel s.draws, ?_⟩⟩
  · exact e.trans (congrArg _ (loadTimer_ackVerify_cons (s := goto .ackVerify s) hf _))
  · exact e.trans (congrArg _ (loadTimer_ackVerify_nil (s := goto .ackVerify s) hf _))

/-- The low phases do not depend on the cursor. -/
theorem lowFor_advanced (v : Bit) (s : State) : lowFor v (advanced s) = lowFor v s := by
  rw [advanced_frame]
  rfl

/-- Settles O37: four bits on, the transition reaches the destination nibble. -/
theorem headerTransitionsCountBits : Obligations.HeaderTransitionsCountBits := by
  intro s h hc ht
  refine ⟨fun hk => ?_, fun hk => ?_⟩
  · exact exec_timeoutInstr_takes h (f := .headerInitHigh) (g := .headerDestLow) (by rw [reached, if_pos hc, if_pos hk])
      (lowFor_advanced _ s) ht
  · exact exec_timeoutInstr_takes h (f := .headerInitHigh) (g := .headerInitLow) (by rw [reached, if_pos hc, if_neg hk])
      (lowFor_advanced _ s) ht

/-- Settles O38: at the end of the byte the transition reaches the EOM bit. -/
theorem byteEndsLeadToTheEomBit : Obligations.ByteEndsLeadToTheEomBit := by
  intro s h hc
  refine ⟨fun ht => ⟨fun hk => ?_, fun hk => ?_⟩, fun ht => ⟨fun hk => ?_, fun hk => ?_⟩⟩
  · exact exec_timeoutInstr_takes h (f := .dataHigh) (g := .dataLow) (by rw [reached, if_pos hc, if_neg hk])
      (lowFor_advanced _ s) ht
  · exact exec_timeoutInstr_takes h (f := .headerDestHigh) (g := .headerDestLow) (by rw [reached, if_pos hc, if_neg hk])
      (lowFor_advanced _ s) ht
  · exact exec_timeoutInstr_takes h (f := .dataHigh) (g := .eomLow) (by rw [reached, if_pos hc, if_pos hk])
      (lowFor_advanced _ s) ht
  · exact exec_timeoutInstr_takes h (f := .headerDestHigh) (g := .eomLow) (by rw [reached, if_pos hc, if_pos hk])
      (lowFor_advanced _ s) ht

/-- A resend that is allowed leaves the counter other than 0, which selects the resend's free time. -/
theorem entryDuration_freeTime_resend {s : State} (hr : s.resends.val < 5) :
    entryDuration .freeTime { s with resends := s.resends + 1, byte := 0, bit := 0 } = duration 7 s := by
  refine if_neg fun h0 : s.resends + 1 = 0 => ?_
  have hval := resends_add hr
  rw [h0] at hval
  cases hval

/-- Settles O39: two branches reach a state, two end the transfer. -/
theorem resendPolicy : Obligations.ResendPolicy := by
  intro s h
  have e := exec_timeoutInstr_of_live h .ackVerify
  refine ⟨fun ha he ht => ?_, fun ha he => e.trans ?_, fun ha hr ht => ?_, fun ha hr => e.trans ?_⟩
  · exact exec_timeoutInstr_takes h (f := .ackVerify) (g := .dataLow)
      (by rw [reached, if_pos ha, eomFor_of_not_end he]; rfl) rfl ht
  · exact (if_pos ha).trans (if_pos (eomFor_of_end he))
  · exact exec_timeoutInstr_takes h (f := .ackVerify) (g := .freeTime)
      (by rw [reached, if_neg (by simp [ha]), if_pos hr]) (entryDuration_freeTime_resend hr) ht
  · exact (if_neg (by simp [ha])).trans (if_neg (Nat.not_lt.mpr hr))

/-- Settles O46: where the cursor cannot move the transition stops there. -/
theorem cursorEndStopsTheTransition : Obligations.CursorEndStopsTheTransition := by
  intro s h hk hb
  have hstop (f : State → Out) : andThen (advanceCursor { s with ret := .nothing }) f = .refused .byteRange := by
    rw [advanceCursor_end (s := { s with ret := .nothing }) hk hb, andThen_of_refused]
  exact ⟨(exec_timeoutInstr_of_live h .headerInitHigh).trans (hstop _),
    (exec_timeoutInstr_of_live h .headerDestHigh).trans (hstop _),
    (exec_timeoutInstr_of_live h .dataHigh).trans (hstop _)⟩

/-- Settles O14: START from Idle with a message is the entry of FreeTime with the resend counter at 0. -/
theorem startBeginsTheTransfer : Obligations.StartBeginsTheTransfer := by
  intro s f h hs
  refine ⟨fun ht hf hl hd => ?_, fun ht hn => ?_, fun ht => exec_start_not_enabled h ht⟩
  · rw [exec_start_of_waiting h ht (hf ▸ hs) hl]
    exact entryOutcome_takes rfl hd
  · rw [exec_start h ht, hs]
    exact if_neg fun ⟨hi, hl⟩ => hn.elim (fun hne => hne hi) hl

end Sys2Proof.Machine
end
